-- ==== Sys2Proof/Word.lean ====
section
/-! DEFINITION. The bit vectors of the machine: words, the Link+AC value, bytes, and their plainest helpers (spec/00_scope.md R6, R8, R10, R11). -/

namespace Sys2Proof

/-- A 12-bit word: a memory word, an address, PC, IR, MQ or SR (R6). -/
abbrev Word := BitVec 12

/-- The 13-bit Link+AC value: the Link is bit 12, AC is bits 11 to 0 (R6, R31). -/
abbrev Lac := BitVec 13

/-- A byte of a stream, or TTI_BUFFER (R6, R71, R262). -/
abbrev Byte := BitVec 8

/-- A 6-bit device selector; 0 is the CPU itself (R6, R103). -/
abbrev Selector := BitVec 6

/-- The mask with the bits of `m` where `b` holds, and no bit elsewhere: one micro-op bit of an instruction word. -/
def bit (b : Bool) (m : Word) : Word := if b then m else 0

end Sys2Proof
end

