-- ==== Sys2Proof/Syntax.lean ====
section
/-! DEFINITION. The instructions: one constructor per row of spec/opcode_table.json (spec/30_encoding.md R101 to R117). A generic row carries the fields its word leaves free; an exact row carries none. -/

namespace Sys2Proof

/-- The six defined values of the group-1 rotate field (R104). The values 0o014 and 0o016 are rows of their own. -/
inductive Rotate where
  | off | bsw | ral | rtl | rar | rtr
  deriving DecidableEq, Repr

/-- One constructor per row of the opcode table. -/
inductive Instr where
  -- memory reference (R102): indirect bit, page bit, offset
  | and (ind page : Bool) (offset : BitVec 7)
  | tad (ind page : Bool) (offset : BitVec 7)
  | isz (ind page : Bool) (offset : BitVec 7)
  | dca (ind page : Bool) (offset : BitVec 7)
  | jms (ind page : Bool) (offset : BitVec 7)
  | jmp (ind page : Bool) (offset : BitVec 7)
  -- selector 0 (R109)
  | ion
  | iof
  | iot00
  | iot03
  | iot04
  | iot05
  | iot06
  | iot07
  -- Teletype input, selector 0o3 (R109)
  | ksf
  | kcc
  | krs
  | krb
  | tti0
  | ksfKcc
  | ksfKrs
  | ksfKrb
  -- Teletype output, selector 0o4 (R109)
  | tsf
  | tcf
  | tpc
  | tls
  | tto0
  | tsfTcf
  | tsfTpc
  | tsfTls
  /-- row TTI: any selector-0o3 word, by its three micro-op bits 0o1, 0o2, 0o4 (R261) -/
  | tti (b1 b2 b4 : Bool)
  /-- row TTO: any selector-0o4 word, by its three micro-op bits 0o1, 0o2, 0o4 (R261) -/
  | tto (b1 b2 b4 : Bool)
  /-- row IOT-UNCLAIMED: any other IOT word (R246) -/
  | iotUnclaimed (selector : Selector) (fn : BitVec 3)
  -- OPR group 1 (R104, R110, R116)
  | cla1
  | cll
  | cma
  | cml
  | iac
  | rar
  | ral
  | rtr
  | rtl
  | bsw
  | nop
  /-- rotate field 0o014 with the other group-1 micro-ops (R204) -/
  | opr1Rot014 (cla cll cma cml iac : Bool)
  /-- rotate field 0o016 with the other group-1 micro-ops (R204) -/
  | opr1Rot016 (cla cll cma cml iac : Bool)
  | cia
  | stl
  | sta
  | glk
  | claCll
  /-- row OPR1: any other group-1 word (R192) -/
  | opr1 (cla cll cma cml iac : Bool) (rot : Rotate)
  -- OPR group 2 (R105, R111, R116)
  | sma
  | sza
  | snl
  | spa
  | sna
  | szl
  | skp
  | cla2
  | osr
  | hlt
  | opr2Nop
  | las
  /-- row OPR2: any other group-2 word (R206); `rev` is the reverse bit 0o010 -/
  | opr2 (cla sma sza snl rev osr hlt : Bool)
  -- OPR group 3 (R106, R112, R116)
  | cla3
  | mqa
  | mql
  | swp
  | opr3Nop
  | cam
  | acl
  /-- row OPR3: any other group-3 word (R218); `x040` and `x016` are the bits without operation (R223) -/
  | opr3 (cla mqa x040 mql : Bool) (x016 : BitVec 3)
  deriving DecidableEq, Repr

end Sys2Proof
end

