-- ==== Sys2Proof/WellFormed.lean ====
section
/-! DEFINITION. Well-formed instructions: the terms some word decodes to. A generic row's term is ill-formed where a more specific row of the opcode table has its word (spec/30_encoding.md R117). -/

namespace Sys2Proof

/-- The group-1 words with a row of their own (R110, R116 as far as the table lists them), by the fields CLA, CLL, CMA, CML, IAC and rotate. -/
def namedGroup1 : List (Bool × Bool × Bool × Bool × Bool × Rotate) :=
  [ (false, false, false, false, false, .off),   -- NOP
    (true, false, false, false, false, .off),    -- CLA1
    (false, true, false, false, false, .off),    -- CLL
    (false, false, true, false, false, .off),    -- CMA
    (false, false, false, true, false, .off),    -- CML
    (false, false, false, false, true, .off),    -- IAC
    (false, false, false, false, false, .rar),   -- RAR
    (false, false, false, false, false, .ral),   -- RAL
    (false, false, false, false, false, .rtr),   -- RTR
    (false, false, false, false, false, .rtl),   -- RTL
    (false, false, false, false, false, .bsw),   -- BSW
    (false, false, true, false, true, .off),     -- CIA
    (false, true, false, true, false, .off),     -- STL
    (true, false, true, false, false, .off),     -- STA
    (true, false, false, false, false, .ral),    -- GLK
    (true, true, false, false, false, .off) ]    -- CLA CLL

/-- The group-2 words with a row of their own (R111, R116), by the fields CLA, SMA, SZA, SNL, reverse, OSR and HLT. -/
def namedGroup2 : List (Bool × Bool × Bool × Bool × Bool × Bool × Bool) :=
  [ (false, false, false, false, false, false, false),  -- OPR2-NOP
    (false, true, false, false, false, false, false),   -- SMA
    (false, false, true, false, false, false, false),   -- SZA
    (false, false, false, true, false, false, false),   -- SNL
    (false, true, false, false, true, false, false),    -- SPA
    (false, false, true, false, true, false, false),    -- SNA
    (false, false, false, true, true, false, false),    -- SZL
    (false, false, false, false, true, false, false),   -- SKP
    (true, false, false, false, false, false, false),   -- CLA2
    (false, false, false, false, false, true, false),   -- OSR
    (false, false, false, false, false, false, true),   -- HLT
    (true, false, false, false, false, true, false) ]   -- LAS

/-- The group-3 words with a row of their own (R112, R116), by the fields CLA, MQA, MQL; their ignored bits are all clear. -/
def namedGroup3 : List (Bool × Bool × Bool) :=
  [ (false, false, false),  -- OPR3-NOP
    (true, false, false),   -- CLA3
    (false, true, false),   -- MQA
    (false, false, true),   -- MQL
    (false, true, true),    -- SWP
    (true, false, true),    -- CAM
    (true, true, false) ]   -- ACL

/-- An instruction is well-formed when some word decodes to it: an exact row always, a generic row unless a more specific
row has the word. TTI and TTO never are, since the exact rows cover all eight words of each (the table's own note). -/
def wellFormed : Instr → Bool
  | .tti _ _ _ => false
  | .tto _ _ _ => false
  | .iotUnclaimed sel _ => sel != 0 && sel != 3 && sel != 4
  | .opr1 cla cll cma cml iac rot => !namedGroup1.contains (cla, cll, cma, cml, iac, rot)
  | .opr2 cla sma sza snl rev osr hlt => !namedGroup2.contains (cla, sma, sza, snl, rev, osr, hlt)
  | .opr3 cla mqa x040 mql x016 => x040 || x016 != 0 || !namedGroup3.contains (cla, mqa, mql)
  | .and _ _ _ | .tad _ _ _ | .isz _ _ _ | .dca _ _ _ | .jms _ _ _ | .jmp _ _ _ => true
  | .ion | .iof | .iot00 | .iot03 | .iot04 | .iot05 | .iot06 | .iot07 => true
  | .ksf | .kcc | .krs | .krb | .tti0 | .ksfKcc | .ksfKrs | .ksfKrb => true
  | .tsf | .tcf | .tpc | .tls | .tto0 | .tsfTcf | .tsfTpc | .tsfTls => true
  | .cla1 | .cll | .cma | .cml | .iac | .rar | .ral | .rtr | .rtl | .bsw | .nop => true
  | .opr1Rot014 _ _ _ _ _ | .opr1Rot016 _ _ _ _ _ => true
  | .cia | .stl | .sta | .glk | .claCll => true
  | .sma | .sza | .snl | .spa | .sna | .szl | .skp | .cla2 | .osr | .hlt | .opr2Nop | .las => true
  | .cla3 | .mqa | .mql | .swp | .opr3Nop | .cam | .acl => true

end Sys2Proof
end

