-- ==== Sys2Proof/Decode.lean ====
section
/-! DEFINITION. Decoding a 12-bit word into an instruction and encoding it back (spec/30_encoding.md R100 to R117). Every 12-bit word decodes (R113); a number that is no 12-bit word is rejected by name. -/

namespace Sys2Proof

/-- Why a number is not an instruction. Raised by `decodeNat`; safe, since memory holds 12-bit words only (R41, R100). -/
inductive DecodeReject where
  | widerThanOneWord
  deriving DecidableEq, Repr

/-- The exact rows of the IOT words (R109, R116). -/
def exactIot : List (Word × Instr) :=
  [ (0o6000, .iot00), (0o6001, .ion), (0o6002, .iof), (0o6003, .iot03),
    (0o6004, .iot04), (0o6005, .iot05), (0o6006, .iot06), (0o6007, .iot07),
    (0o6030, .tti0), (0o6031, .ksf), (0o6032, .kcc), (0o6033, .ksfKcc),
    (0o6034, .krs), (0o6035, .ksfKrs), (0o6036, .krb), (0o6037, .ksfKrb),
    (0o6040, .tto0), (0o6041, .tsf), (0o6042, .tcf), (0o6043, .tsfTcf),
    (0o6044, .tpc), (0o6045, .tsfTpc), (0o6046, .tls), (0o6047, .tsfTls) ]

/-- The exact rows of OPR group 1 (R110, R116). -/
def exactGroup1 : List (Word × Instr) :=
  [ (0o7000, .nop), (0o7001, .iac), (0o7002, .bsw), (0o7004, .ral), (0o7006, .rtl),
    (0o7010, .rar), (0o7012, .rtr), (0o7020, .cml), (0o7040, .cma), (0o7100, .cll),
    (0o7200, .cla1), (0o7041, .cia), (0o7120, .stl), (0o7240, .sta), (0o7204, .glk),
    (0o7300, .claCll) ]

/-- The exact rows of OPR group 2 (R111, R116). -/
def exactGroup2 : List (Word × Instr) :=
  [ (0o7400, .opr2Nop), (0o7500, .sma), (0o7440, .sza), (0o7420, .snl), (0o7510, .spa),
    (0o7450, .sna), (0o7430, .szl), (0o7410, .skp), (0o7600, .cla2), (0o7404, .osr),
    (0o7402, .hlt), (0o7604, .las) ]

/-- The exact rows of OPR group 3 (R112, R116). -/
def exactGroup3 : List (Word × Instr) :=
  [ (0o7401, .opr3Nop), (0o7601, .cla3), (0o7501, .mqa), (0o7421, .mql), (0o7521, .swp),
    (0o7621, .cam), (0o7701, .acl) ]

/-- The most specific row of a word: the exact row if there is one, else the generic reading (R117). -/
def orExact (rows : List (Word × Instr)) (w : Word) (generic : Instr) : Instr :=
  (rows.lookup w).getD generic

/-- The opcode field `IR[11:9]` (R100). -/
def opcodeField (w : Word) : BitVec 3 := w.extractLsb' 9 3

/-- The selector field `IR[8:3]` of an IOT (R103). -/
def selectorField (w : Word) : Selector := w.extractLsb' 3 6

/-- The operation field `IR[2:0]` of an IOT (R103). -/
def fnField (w : Word) : BitVec 3 := w.extractLsb' 0 3

/-- An IOT word by the generic rows (R103, R109): TTI, TTO or IOT-UNCLAIMED. -/
def decodeIotGeneric (w : Word) : Instr :=
  if selectorField w = 3 then .tti (w.getLsbD 0) (w.getLsbD 1) (w.getLsbD 2)
  else if selectorField w = 4 then .tto (w.getLsbD 0) (w.getLsbD 1) (w.getLsbD 2)
  else .iotUnclaimed (selectorField w) (fnField w)

/-- A group-1 word by the rows OPR1, OPR1-ROT014 and OPR1-ROT016, chosen by the rotate field `IR[3:1]` (R104). -/
def decodeGroup1Generic (w : Word) : Instr :=
  let cla := w.getLsbD 7
  let cll := w.getLsbD 6
  let cma := w.getLsbD 5
  let cml := w.getLsbD 4
  let iac := w.getLsbD 0
  match (w.extractLsb' 1 3).toNat with
  | 0 => .opr1 cla cll cma cml iac .off
  | 1 => .opr1 cla cll cma cml iac .bsw
  | 2 => .opr1 cla cll cma cml iac .ral
  | 3 => .opr1 cla cll cma cml iac .rtl
  | 4 => .opr1 cla cll cma cml iac .rar
  | 5 => .opr1 cla cll cma cml iac .rtr
  | 6 => .opr1Rot014 cla cll cma cml iac
  | _ => .opr1Rot016 cla cll cma cml iac

/-- A group-2 word by the row OPR2 (R105). -/
def decodeGroup2Generic (w : Word) : Instr :=
  .opr2 (w.getLsbD 7) (w.getLsbD 6) (w.getLsbD 5) (w.getLsbD 4) (w.getLsbD 3) (w.getLsbD 2) (w.getLsbD 1)

/-- A group-3 word by the row OPR3 (R106). -/
def decodeGroup3Generic (w : Word) : Instr :=
  .opr3 (w.getLsbD 7) (w.getLsbD 6) (w.getLsbD 5) (w.getLsbD 4) (w.extractLsb' 1 3)

/-- An OPR word, its group by `IR[8]` and `IR[0]` (R107, R190). -/
def decodeOpr (w : Word) : Instr :=
  if w.getLsbD 8 = false then orExact exactGroup1 w (decodeGroup1Generic w)
  else if w.getLsbD 0 = false then orExact exactGroup2 w (decodeGroup2Generic w)
  else orExact exactGroup3 w (decodeGroup3Generic w)

/-- Decode: total on 12-bit words, the family by the opcode (R101, R113, R142). -/
def decode (w : Word) : Instr :=
  match (opcodeField w).toNat with
  | 0 => .and (w.getLsbD 8) (w.getLsbD 7) (w.extractLsb' 0 7)
  | 1 => .tad (w.getLsbD 8) (w.getLsbD 7) (w.extractLsb' 0 7)
  | 2 => .isz (w.getLsbD 8) (w.getLsbD 7) (w.extractLsb' 0 7)
  | 3 => .dca (w.getLsbD 8) (w.getLsbD 7) (w.extractLsb' 0 7)
  | 4 => .jms (w.getLsbD 8) (w.getLsbD 7) (w.extractLsb' 0 7)
  | 5 => .jmp (w.getLsbD 8) (w.getLsbD 7) (w.extractLsb' 0 7)
  | 6 => orExact exactIot w (decodeIotGeneric w)
  | _ => decodeOpr w

/-- Decoding of any number: a word decodes, a wider number is rejected by name. -/
def decodeNat (n : Nat) : Except DecodeReject Instr :=
  if n < 4096 then .ok (decode (BitVec.ofNat 12 n)) else .error .widerThanOneWord

/-- What the decoder reads from an instruction whose bits are `w`, numbered as the opcode table numbers them. An instruction is
one word, bit 0 its least significant, so no other layout exists (R8, R100); `none` where `w` has a bit above bit 11. -/
def decodeTableWord (_nbits w : Nat) : Option Instr :=
  match decodeNat w with
  | .ok i => some i
  | .error _ => none

/-! ## The encoder -/

/-- A memory-reference word (R102): opcode base, I = 0o400, P = 0o200, offset. -/
def encodeMri (base : Word) (ind page : Bool) (offset : BitVec 7) : Word :=
  base ||| bit ind 0o400 ||| bit page 0o200 ||| offset.zeroExtend 12

/-- The rotate field of a group-1 word (R104). -/
def rotateBits : Rotate → Word
  | .off => 0o000
  | .bsw => 0o002
  | .ral => 0o004
  | .rtl => 0o006
  | .rar => 0o010
  | .rtr => 0o012

/-- A group-1 word with the given rotate field (R104). -/
def encodeGroup1 (cla cll cma cml iac : Bool) (rot : Word) : Word :=
  0o7000 ||| bit cla 0o200 ||| bit cll 0o100 ||| bit cma 0o040 ||| bit cml 0o020 ||| rot ||| bit iac 0o001

/-- A group-2 word (R105). -/
def encodeGroup2 (cla sma sza snl rev osr hlt : Bool) : Word :=
  0o7400 ||| bit cla 0o200 ||| bit sma 0o100 ||| bit sza 0o040 ||| bit snl 0o020 ||| bit rev 0o010 |||
    bit osr 0o004 ||| bit hlt 0o002

/-- A group-3 word (R106). -/
def encodeGroup3 (cla mqa x040 mql : Bool) (x016 : BitVec 3) : Word :=
  0o7401 ||| bit cla 0o200 ||| bit mqa 0o100 ||| bit x040 0o040 ||| bit mql 0o020 ||| (x016.zeroExtend 12 <<< 1)

/-- An IOT word (R103). -/
def encodeIot (selector : Selector) (fn : BitVec 3) : Word :=
  0o6000 ||| (selector.zeroExtend 12 <<< 3) ||| fn.zeroExtend 12

/-- A Teletype word by its three micro-op bits (R109, R260). -/
def encodeTty (base : Word) (b1 b2 b4 : Bool) : Word :=
  base ||| bit b1 0o1 ||| bit b2 0o2 ||| bit b4 0o4

/-- The word of an instruction (R101 to R116). -/
def encode : Instr → Word
  | .and ind page off => encodeMri 0o0000 ind page off
  | .tad ind page off => encodeMri 0o1000 ind page off
  | .isz ind page off => encodeMri 0o2000 ind page off
  | .dca ind page off => encodeMri 0o3000 ind page off
  | .jms ind page off => encodeMri 0o4000 ind page off
  | .jmp ind page off => encodeMri 0o5000 ind page off
  | .ion => 0o6001
  | .iof => 0o6002
  | .iot00 => 0o6000
  | .iot03 => 0o6003
  | .iot04 => 0o6004
  | .iot05 => 0o6005
  | .iot06 => 0o6006
  | .iot07 => 0o6007
  | .ksf => 0o6031
  | .kcc => 0o6032
  | .krs => 0o6034
  | .krb => 0o6036
  | .tti0 => 0o6030
  | .ksfKcc => 0o6033
  | .ksfKrs => 0o6035
  | .ksfKrb => 0o6037
  | .tsf => 0o6041
  | .tcf => 0o6042
  | .tpc => 0o6044
  | .tls => 0o6046
  | .tto0 => 0o6040
  | .tsfTcf => 0o6043
  | .tsfTpc => 0o6045
  | .tsfTls => 0o6047
  | .tti b1 b2 b4 => encodeTty 0o6030 b1 b2 b4
  | .tto b1 b2 b4 => encodeTty 0o6040 b1 b2 b4
  | .iotUnclaimed sel fn => encodeIot sel fn
  | .cla1 => 0o7200
  | .cll => 0o7100
  | .cma => 0o7040
  | .cml => 0o7020
  | .iac => 0o7001
  | .rar => 0o7010
  | .ral => 0o7004
  | .rtr => 0o7012
  | .rtl => 0o7006
  | .bsw => 0o7002
  | .nop => 0o7000
  | .opr1Rot014 cla cll cma cml iac => encodeGroup1 cla cll cma cml iac 0o014
  | .opr1Rot016 cla cll cma cml iac => encodeGroup1 cla cll cma cml iac 0o016
  | .cia => 0o7041
  | .stl => 0o7120
  | .sta => 0o7240
  | .glk => 0o7204
  | .claCll => 0o7300
  | .opr1 cla cll cma cml iac rot => encodeGroup1 cla cll cma cml iac (rotateBits rot)
  | .sma => 0o7500
  | .sza => 0o7440
  | .snl => 0o7420
  | .spa => 0o7510
  | .sna => 0o7450
  | .szl => 0o7430
  | .skp => 0o7410
  | .cla2 => 0o7600
  | .osr => 0o7404
  | .hlt => 0o7402
  | .opr2Nop => 0o7400
  | .las => 0o7604
  | .opr2 cla sma sza snl rev osr hlt => encodeGroup2 cla sma sza snl rev osr hlt
  | .cla3 => 0o7601
  | .mqa => 0o7501
  | .mql => 0o7421
  | .swp => 0o7521
  | .opr3Nop => 0o7401
  | .cam => 0o7621
  | .acl => 0o7701
  | .opr3 cla mqa x040 mql x016 => encodeGroup3 cla mqa x040 mql x016

/-! ## The opcode table (R117) -/

/-- The mask of the row an instruction stands for: the bits its row fixes (opcode_table.json). -/
def rowMask : Instr → Word
  | .and _ _ _ | .tad _ _ _ | .isz _ _ _ | .dca _ _ _ | .jms _ _ _ | .jmp _ _ _ => 0o7000
  | .tti _ _ _ | .tto _ _ _ => 0o7770
  | .iotUnclaimed _ _ => 0o7000
  | .opr1Rot014 _ _ _ _ _ | .opr1Rot016 _ _ _ _ _ => 0o7416
  | .opr1 _ _ _ _ _ _ => 0o7400
  | .opr2 _ _ _ _ _ _ _ => 0o7401
  | .opr3 _ _ _ _ _ => 0o7401
  | _ => 0o7777

/-- The match value of the row an instruction stands for (opcode_table.json). -/
def rowMatch : Instr → Word
  | .and _ _ _ => 0o0000
  | .tad _ _ _ => 0o1000
  | .isz _ _ _ => 0o2000
  | .dca _ _ _ => 0o3000
  | .jms _ _ _ => 0o4000
  | .jmp _ _ _ => 0o5000
  | .tti _ _ _ => 0o6030
  | .tto _ _ _ => 0o6040
  | .iotUnclaimed _ _ => 0o6000
  | .opr1Rot014 _ _ _ _ _ => 0o7014
  | .opr1Rot016 _ _ _ _ _ => 0o7016
  | .opr1 _ _ _ _ _ _ => 0o7000
  | .opr2 _ _ _ _ _ _ _ => 0o7400
  | .opr3 _ _ _ _ _ => 0o7401
  | i => encode i

/-- The match and mask of every row of opcode_table.json, in its order. -/
def tableRows : List (Word × Word) :=
  [ (0o0000, 0o7000), (0o1000, 0o7000), (0o2000, 0o7000), (0o3000, 0o7000), (0o4000, 0o7000), (0o5000, 0o7000),
    (0o6001, 0o7777), (0o6002, 0o7777), (0o6000, 0o7777), (0o6003, 0o7777), (0o6004, 0o7777), (0o6005, 0o7777),
    (0o6006, 0o7777), (0o6007, 0o7777), (0o6031, 0o7777), (0o6032, 0o7777), (0o6034, 0o7777), (0o6036, 0o7777),
    (0o6030, 0o7777), (0o6033, 0o7777), (0o6035, 0o7777), (0o6037, 0o7777), (0o6041, 0o7777), (0o6042, 0o7777),
    (0o6044, 0o7777), (0o6046, 0o7777), (0o6040, 0o7777), (0o6043, 0o7777), (0o6045, 0o7777), (0o6047, 0o7777),
    (0o6030, 0o7770), (0o6040, 0o7770), (0o6000, 0o7000), (0o7200, 0o7777), (0o7100, 0o7777), (0o7040, 0o7777),
    (0o7020, 0o7777), (0o7001, 0o7777), (0o7010, 0o7777), (0o7004, 0o7777), (0o7012, 0o7777), (0o7006, 0o7777),
    (0o7002, 0o7777), (0o7000, 0o7777), (0o7014, 0o7416), (0o7016, 0o7416), (0o7041, 0o7777), (0o7120, 0o7777),
    (0o7240, 0o7777), (0o7204, 0o7777), (0o7300, 0o7777), (0o7000, 0o7400), (0o7500, 0o7777), (0o7440, 0o7777),
    (0o7420, 0o7777), (0o7510, 0o7777), (0o7450, 0o7777), (0o7430, 0o7777), (0o7410, 0o7777), (0o7600, 0o7777),
    (0o7404, 0o7777), (0o7402, 0o7777), (0o7400, 0o7777), (0o7604, 0o7777), (0o7400, 0o7401), (0o7601, 0o7777),
    (0o7501, 0o7777), (0o7421, 0o7777), (0o7521, 0o7777), (0o7401, 0o7777), (0o7621, 0o7777), (0o7701, 0o7777),
    (0o7401, 0o7401) ]

end Sys2Proof
end

