-- ==== Sys2Proof/Config.lean ====
section
/-! DEFINITION. The open parameters of the hardware that the spec leaves to the reader of the model (spec/00_scope.md R7; 92_eei_decisions.md D1, D16, D34). They are plain data held in State, so that a statement about every state holds for every value of them (log entry 5). -/

namespace Sys2Proof

/-- PAGE_BASE (R146, D1, conflict C1): which address's page current-page addressing takes. -/
inductive PageBase where
  /-- the instruction's own address (the default) -/
  | instructionAddress
  /-- the PC after the fetch increment -/
  | incrementedPc
  deriving DecidableEq, Repr

/-- UNDEF_ROTATE (R204, D16): what rotate fields 0o014 and 0o016 do. -/
inductive UndefRotate where
  /-- the rotate step does nothing (the default) -/
  | noop
  /-- the model refuses the word -/
  | refuse
  deriving DecidableEq, Repr

/-- GROUP3_EXTRA (R223, D34): what the group-3 bits 0o040 and 0o016 do. -/
inductive Group3Extra where
  /-- the bits are ignored (the default) -/
  | ignore
  /-- the model refuses a word that has any of them -/
  | refuse
  deriving DecidableEq, Repr

/-- The parameters a model takes (R7). -/
structure Params where
  pageBase : PageBase
  undefRotate : UndefRotate
  group3Extra : Group3Extra
  deriving DecidableEq, Repr

/-- The default of each parameter (R7). -/
def Params.default : Params :=
  { pageBase := .instructionAddress, undefRotate := .noop, group3Extra := .ignore }

end Sys2Proof
end

