-- ==== Sys2Proof/Machine/State.lean ====
section
/-! DEFINITION. The state of the machine as plain data (spec/10_state.md R30 to R46), the host-side data an iteration reads and writes (spec/44_teletype.md R262), the reasons a step stops, and the state after construction and after reset. -/

namespace Sys2Proof.Machine

/-- One word of memory at an address. Memory is word addressed, so a cell holds a 12-bit word (R41, R70; log entry 4). -/
abbrev Cell := Nat × Word

/-- Memory: a list of cells, addresses strictly rising below 4096, no cell equal to what an unlisted address reads as (log entries 3 and 4). -/
abbrev Memory := List Cell

/-- What a stream's or a device's error says (`e` in R262, R301). The spec gives it no structure, so it is a number. -/
abbrev IoError := Nat

/-! ## Host streams (R262) -/

/-- The answer to one read of an input source (R262). -/
inductive ReadAnswer where
  | byte (b : Byte)
  /-- no byte is available -/
  | nothing
  | eof
  | error (e : IoError)
  deriving DecidableEq, Repr

/-- What is left of an attached tape, one item a read: its bytes in order, among which a read may find no byte ready or an
error; after the last item every read answers `eof` (R262; log entry 8). -/
inductive TapeItem where
  | byte (b : Byte)
  | nothing
  | error (e : IoError)
  deriving DecidableEq, Repr

/-- The answer to one write to an output sink (R262, D29). -/
inductive WriteAnswer where
  | ok
  | error (e : IoError)
  deriving DecidableEq, Repr

/-- An output sink: the bytes it has accepted, oldest first, and the answers its coming writes will get, oldest first; past
the last of them every write is answered `ok` (log entry 7). -/
structure Sink where
  written : List Byte
  answers : List WriteAnswer
  deriving DecidableEq, Repr

/-- What a device other than the Teletype returns from `iot`: PC, LAC and an error or none (R244, R246). -/
structure IotAnswer where
  pc : Nat
  lac : Nat
  err : Option IoError
  deriving DecidableEq, Repr

/-- What a device other than the Teletype answers to an interrupt query (R244, R310). -/
inductive InterruptAnswer where
  | idle
  | asserting
  | error (e : IoError)
  deriving DecidableEq, Repr

/-- The host's side of the machine: parameters of a step by R262, held as data because a step has no other argument (log
entries 7 and 14). -/
structure Streams where
  /-- answers of the console input to the coming reads, oldest first; past the last every read answers `nothing` -/
  consoleIn : List ReadAnswer
  /-- the attached tape's remaining items, or `none` where no tape is attached (R282, R341) -/
  tape : Option (List TapeItem)
  consoleOut : Sink
  /-- the attached punch, or `none` where none is attached (R282, R341) -/
  punch : Option Sink
  /-- answers of devices other than the Teletype to the coming `iot` calls, oldest first -/
  iotAnswers : List IotAnswer
  /-- answers of devices other than the Teletype to the coming interrupt queries, oldest first -/
  interruptAnswers : List InterruptAnswer
  deriving DecidableEq, Repr

/-! ## Devices (R42, R244) -/

/-- A registered device: the Teletype, or another one known only by the selectors it claims (R244, R250). -/
inductive Device where
  | teletype
  | other (selectors : List Selector)
  deriving DecidableEq, Repr

/-- The Teletype's state (R43), each flag under its own name. -/
structure Teletype where
  ttiReady : Bool
  ttiBuffer : Byte
  ttiReaderActive : Bool
  ttiReaderRun : Bool
  ttiReaderEof : Bool
  readerPos : Nat
  ttoReady : Bool
  ttiIntPending : Bool
  ttoIntPending : Bool
  ttoPunchActive : Bool
  exitRequest : Bool
  deriving DecidableEq, Repr

/-- How an execute rule, and after it the iteration, ended (R142, R150, R151): an error is a fault instead. -/
inductive Signal where
  | cont
  | halt
  | exit
  deriving DecidableEq, Repr

/-- The state: the tuple of R30, then what the model holds beside it (params, streams, signal, pcSet). -/
structure State where
  /-- program counter (R34) -/
  pc : Word
  /-- instruction register (R35) -/
  ir : Word
  /-- Link and accumulator (R31, R33) -/
  lac : Lac
  /-- multiplier-quotient (R36) -/
  mq : Word
  /-- switch register (R37) -/
  sr : Word
  /-- interrupt enable (R38) -/
  ien : Bool
  /-- the delay latch of ION (R39) -/
  ionPending : Bool
  /-- the 4096 words of memory (R41) -/
  mem : Memory
  /-- the registered devices in registration order (R42, R249) -/
  devices : List Device
  /-- the Teletype (R43) -/
  tty : Teletype
  /-- the model's own: the host streams (R262; log entry 7) -/
  streams : Streams
  /-- the model's own: the open parameters (R7; log entry 5) -/
  params : Params
  /-- the model's own: how the latest iteration ended (R150; log entry 9) -/
  signal : Signal
  /-- the model's own: the host has set PC since construction (R343, U13; log entry 11) -/
  pcSet : Bool
  deriving DecidableEq, Repr

/-! ## Why a step stops -/

/-- The errors that end Run (R301). Each carries the error and the PC after it, the one piece of state the source fixes (R155,
R302); the rest of the state after an error is unspecified, so nothing follows (D21, U11). -/
inductive Fault where
  /-- IO_READ: a poll's read answered an error. Raised by every Teletype IOT and by the interrupt poll (R269). Safe: the source leaves the state after it unspecified. -/
  | ioRead (e : IoError) (pc : Word)
  /-- IO_WRITE: a write answered an error. Raised by TPC and every word with its micro-op (R276). Safe, for the same reason. -/
  | ioWrite (e : IoError) (pc : Word)
  /-- DEVICE: another device returned an error. Raised by IOT words sent to it and by the interrupt poll (R246, R301). Safe, for the same reason. -/
  | device (e : IoError) (pc : Word)
  deriving DecidableEq, Repr

/-- The reasons the model gives an action no meaning. -/
inductive Refusal where
  /-- An instruction without a meaning yet. Raised by exec's refused arms; there is none. Safe. -/
  | notModelled (mnemonic : String)
  /-- A rotate field 0o014 or 0o016 while UNDEF_ROTATE is `refuse`. Raised by OPR1-ROT014 and OPR1-ROT016 (R204). Safe: the spec says the model refuses. -/
  | undefRotate
  /-- A group-3 bit 0o040 or 0o016 while GROUP3_EXTRA is `refuse`. Raised by OPR3 (R223). Safe: the spec says the model refuses. -/
  | group3Extra
  /-- The reader is active with no tape attached. Raised by the poll and by ReaderStart: the host must attach first (R282, U13). Safe. -/
  | noTape
  /-- The punch is active with none attached. Raised by TPC's write and by PunchStart (R282, U13). Safe. -/
  | noPunch
  /-- REG_CONFLICT: a device claims selector 0 or a selector already claimed. Raised by Register (R248, R301, R304). Safe. -/
  | regConflict
  /-- Run on a machine whose PC was never set. Raised by Run (R343, U13). Safe. -/
  | pcNeverSet
  deriving DecidableEq, Repr

/-! ## Construction and reset (R45, R340, R341) -/

/-- The Teletype after construction (R43). TTI_BUFFER is unspecified; 0 is the model's value (log entry 2). -/
def Teletype.constructed : Teletype :=
  { ttiReady := false, ttiBuffer := 0, ttiReaderActive := false, ttiReaderRun := false,
    ttiReaderEof := false, readerPos := 0, ttoReady := false, ttiIntPending := false,
    ttoIntPending := false, ttoPunchActive := false, exitRequest := false }

/-- The streams after construction: no tape, no punch (R341), no answer scripted and nothing written (log entry 7). The operation
construct Teletype puts the host's console streams in their place (R346; `constructTeletype` of Machine/HostOps.lean). -/
def Streams.constructed : Streams :=
  { consoleIn := [], tape := none, consoleOut := { written := [], answers := [] }, punch := none,
    iotAnswers := [], interruptAnswers := [] }

/-- The machine after construction, before any host operation (R45). PC, IR, LAC, MQ, SR and memory are launch parameters
there; their zeros are the model's values (log entries 1 and 3). -/
def State.constructed : State :=
  { pc := 0, ir := 0, lac := 0, mq := 0, sr := 0, ien := false, ionPending := false, mem := [],
    devices := [], tty := .constructed, streams := .constructed, params := .default,
    signal := .cont, pcSet := false }

/-- The machine right after reset: constructed, with this hardware's device list, the Teletype alone (R7, R42, R250; log
entry 6). -/
def State.reset : State := { State.constructed with devices := [.teletype] }

end Sys2Proof.Machine
end

