-- ==== Sys2Proof/Machine/Ops.lean ====
section
/-! DEFINITION. The named operations over memory and registers, and interrupt entry (spec/20_memory.md R73 to R78; 10_state.md R31 to R39; 40_cycle_and_addressing.md R141, R143; 60_exceptions.md R310, R311). -/

namespace Sys2Proof.Machine

/-! ## Memory (R41, R74, R75) -/

/-- What an address nothing has written reads as: the spec leaves it open; 0 is the model's value (log entry 3). -/
def unlistedWord : Word := 0

/-- The word at an address. -/
def Memory.read : Memory → Nat → Word
  | [], _ => unlistedWord
  | c :: m, a => if c.1 = a then c.2 else Memory.read m a

/-- The memory without any cell at an address. -/
def Memory.without (m : Memory) (a : Nat) : Memory := m.filter (fun c => c.1 != a)

/-- A cell put before the first cell of a higher address. -/
def Memory.place : Memory → Cell → Memory
  | [], c => [c]
  | d :: m, c => if c.1 < d.1 then c :: d :: m else d :: Memory.place m c

/-- The memory with a word written at an address, in canonical form: a cell equal to what an unlisted address reads as is left out. -/
def Memory.write (m : Memory) (a : Nat) (v : Word) : Memory :=
  if v = unlistedWord then m.without a else (m.without a).place (a, v)

/-- The canonical form: addresses strictly rising and below 4096, no cell equal to what an unlisted address reads as. -/
abbrev Memory.wf (m : Memory) : Prop :=
  m.Pairwise (fun c d => c.1 < d.1) ∧ ∀ c ∈ m, c.1 < 4096 ∧ c.2 ≠ unlistedWord

/-- `MemRead(a, 1)` (R74). -/
def State.memRead (s : State) (a : Word) : Word := s.mem.read a.toNat

/-- `MemWrite(a, 1, v)` (R75). -/
def State.memWrite (s : State) (a v : Word) : State := { s with mem := s.mem.write a.toNat v }

/-! ## Registers -/

/-- AC, the accumulator: LAC bits 11 to 0 (R31). -/
def State.ac (s : State) : Word := s.lac.setWidth 12

/-- The Link: LAC bit 12 (R33). -/
def State.link (s : State) : Bool := s.lac.getLsbD 12

def State.setPc (s : State) (v : Word) : State := { s with pc := v }
def State.setIr (s : State) (v : Word) : State := { s with ir := v }
def State.setLac (s : State) (v : Lac) : State := { s with lac := v }
def State.setMq (s : State) (v : Word) : State := { s with mq := v }
def State.setSr (s : State) (v : Word) : State := { s with sr := v }
def State.setIen (s : State) (b : Bool) : State := { s with ien := b }
def State.setIonPending (s : State) (b : Bool) : State := { s with ionPending := b }
def State.setTty (s : State) (t : Teletype) : State := { s with tty := t }
def State.setStreams (s : State) (h : Streams) : State := { s with streams := h }
def State.setDevices (s : State) (ds : List Device) : State := { s with devices := ds }
def State.setSignal (s : State) (g : Signal) : State := { s with signal := g }

/-- `Skip()`: PC advances by one more, modulo 4096 (R10, R34, R143). -/
def State.skip (s : State) : State := s.setPc (s.pc + 1)

/-- A skip where the condition holds. -/
def State.skipIf (c : Bool) (s : State) : State := if c then s.skip else s

/-! ## Fetch (R141) -/

/-- Fetch: IR takes the word at PC, and PC the next address modulo 4096. The iteration's outcome is `continue` until an execute
rule says otherwise (R142). -/
def State.fetch (s : State) : State :=
  ((s.setIr (s.memRead s.pc)).setPc (s.pc + 1)).setSignal .cont

/-! ## Taking an interrupt (R310, R311) -/

/-- Interrupt entry: `M[0] <- PC`, `PC <- 1`, `IEN <- 0`, and ION_PENDING cleared (D4; log entry 18). Nothing else changes. There
is no return operation beside it: the core has no instruction that restores state, a handler returns by `JMP I 0` (R314). -/
def State.enterInterrupt (s : State) : State :=
  (((s.memWrite 0 s.pc).setPc 1).setIen false).setIonPending false

/-- Promotion of a pending ION, at the end of an iteration that began with `p` in ION_PENDING (R153, D5; log entry 19). -/
def State.promote (p : Bool) (s : State) : State :=
  if p && s.ionPending then (s.setIen true).setIonPending false else s

/-- The exit request at the end of an iteration: it is cleared and Run ends with `Exit` (R151, D20; log entry 22). -/
def State.takeExit (s : State) : State :=
  if s.tty.exitRequest then (s.setTty { s.tty with exitRequest := false }).setSignal .exit else s

end Sys2Proof.Machine
end

