-- ==== Sys2Proof/Machine/Flags.lean ====
section
/-! DEFINITION. What each operation does to the 13-bit Link+AC value, the Link being the core's only flag (spec/10_state.md R33; 41_memory_reference.md R170, R171; 42_operate.md R191 to R222), and the group-2 skip condition (R206). -/

namespace Sys2Proof.Machine

/-- AND into AC, the Link preserved (R170). -/
def lacAnd (l : Lac) (v : Word) : Lac := l &&& (v.zeroExtend 13 ||| 0o10000)

/-- Two's-complement add into AC; a carry out of AC bit 11 complements the Link (R171). -/
def lacAdd (l : Lac) (v : Word) : Lac := l + v.zeroExtend 13

/-- OR into AC, the Link preserved (R216, R221, R272). -/
def lacOr (l : Lac) (v : Word) : Lac := l ||| v.zeroExtend 13

/-- AC cleared, the Link preserved (R193, R215, R219). -/
def lacCla (l : Lac) : Lac := l &&& 0o10000

/-- The Link cleared (R194). -/
def lacCll (l : Lac) : Lac := l &&& 0o07777

/-- AC complemented (R195). -/
def lacCma (l : Lac) : Lac := l ^^^ 0o07777

/-- The Link complemented (R196). -/
def lacCml (l : Lac) : Lac := l ^^^ 0o10000

/-- LAC incremented modulo 2^13 (R197). -/
def lacIac (l : Lac) : Lac := l + 1

/-- Rotate right one place: bit 0 into bit 12 (R191). -/
def ror13 (l : Lac) : Lac := (l >>> 1) ||| ((l &&& 1) <<< 12)

/-- Rotate left one place: bit 12 into bit 0 (R191). -/
def rol13 (l : Lac) : Lac := (l <<< 1) ||| (l >>> 12)

/-- The two 6-bit halves of AC swapped, the Link preserved (R191). -/
def bswLac (l : Lac) : Lac := (l &&& 0o10000) ||| ((l &&& 0o77) <<< 6) ||| ((l >>> 6) &&& 0o77)

/-- The rotate step of group 1 (R192). -/
def rotateLac : Rotate → Lac → Lac
  | .off, l => l
  | .bsw, l => bswLac l
  | .ral, l => rol13 l
  | .rtl, l => rol13 (rol13 l)
  | .rar, l => ror13 l
  | .rtr, l => ror13 (ror13 l)

/-- One micro-op step, run where its bit is set. -/
def stepIf (b : Bool) (f : Lac → Lac) (l : Lac) : Lac := if b then f l else l

/-- The group-1 sequence on LAC: CLA, CLL, CMA, CML, IAC, rotate, in that order (R192). -/
def group1Lac (cla cll cma cml iac : Bool) (rot : Rotate) (l : Lac) : Lac :=
  rotateLac rot (stepIf iac lacIac (stepIf cml lacCml (stepIf cma lacCma (stepIf cll lacCll (stepIf cla lacCla l)))))

/-- AC negative: bit 11 (R207). -/
def acNegative (l : Lac) : Bool := l &&& 0o4000 != 0

/-- AC zero (R208). -/
def acZero (l : Lac) : Bool := l &&& 0o7777 == 0

/-- Link set (R209). -/
def linkSet (l : Lac) : Bool := l &&& 0o10000 != 0

/-- The group-2 skip condition: any selected test, inverted by the reverse bit (R206, R214). -/
def group2Skips (sma sza snl rev : Bool) (l : Lac) : Bool :=
  ((sma && acNegative l) || (sza && acZero l) || (snl && linkSet l)) != rev

/-- The group-2 steps on LAC after the skip test: CLA, then OSR (R206). -/
def group2Lac (cla osr : Bool) (sr : Word) (l : Lac) : Lac :=
  stepIf osr (fun x => lacOr x sr) (stepIf cla lacCla l)

/-- The group-3 sequence on LAC and MQ: save MQ, CLA, MQL, MQA (R218). -/
def group3 (cla mqa mql : Bool) (l : Lac) (mq : Word) : Lac × Word :=
  let l1 := stepIf cla lacCla l
  let mq' := if mql then l1.setWidth 12 else mq
  (stepIf mqa (fun x => lacOr x mq) (stepIf mql lacCla l1), mq')

end Sys2Proof.Machine
end

