-- ==== Sys2Proof/Machine/Teletype.lean ====
section
/-! DEFINITION. The Teletype: its streams, its poll, its micro-ops and its interrupt request (spec/44_teletype.md R260 to R283). -/

namespace Sys2Proof.Machine

/-! ## Streams (R262) -/

/-- The answer to the next read of the console input, and the answers left; with none scripted no byte is available (log entry 7). -/
def readConsole : List ReadAnswer → ReadAnswer × List ReadAnswer
  | [] => (.nothing, [])
  | a :: rest => (a, rest)

/-- The answer to the next read of a tape, and the items left; past its end every read answers `eof` (R262, R267). -/
def readTape : List TapeItem → ReadAnswer × List TapeItem
  | [] => (.eof, [])
  | .byte b :: rest => (.byte b, rest)
  | .nothing :: rest => (.nothing, rest)
  | .error e :: rest => (.error e, rest)

/-- One byte written to a sink: the sink afterwards, or the error the write answered (R262, D29). -/
def Sink.write (o : Sink) (b : Byte) : Except IoError Sink :=
  match o.answers with
  | [] => .ok { o with written := o.written ++ [b] }
  | .ok :: rest => .ok { written := o.written ++ [b], answers := rest }
  | .error e :: _ => .error e

/-! ## The poll (R263 to R269) -/

/-- Whether the poll reads: the tape only while armed, the console only while no byte is held (R264). -/
def Teletype.wantsRead (t : Teletype) : Bool :=
  (t.ttiReaderActive && t.ttiReaderRun) || (!t.ttiReaderActive && !t.ttiReady)

/-- The answer of the current source to one read, and the streams after it; `none` where the tape is the source and none is
attached (R262, R264; log entry 13). -/
def State.readSource (s : State) : Option (ReadAnswer × Streams) :=
  if s.tty.ttiReaderActive then
    match s.streams.tape with
    | none => none
    | some items => some ((readTape items).1, { s.streams with tape := some (readTape items).2 })
  else
    some ((readConsole s.streams.consoleIn).1, { s.streams with consoleIn := (readConsole s.streams.consoleIn).2 })

/-- A successful read of a byte: it is held, the flag and the request are set, the reader is disarmed; a tape byte counts in
READER_POS, and the keyboard's 0x1C asks for an exit (R265, R266). -/
def Teletype.accept (t : Teletype) (b : Byte) : Teletype :=
  { t with
    ttiBuffer := b
    ttiReady := true
    ttiReaderRun := false
    ttiIntPending := true
    readerPos := if t.ttiReaderActive then t.readerPos + 1 else t.readerPos
    exitRequest := if !t.ttiReaderActive && b == 0x1C then true else t.exitRequest }

/-- The poll's input step (R263 steps 1 to 3): read if the source is ready to be read, and take the answer. -/
def State.pollInput (s : State) : Host.Outcome State Fault Refusal :=
  if s.tty.wantsRead then
    match s.readSource with
    | none => .refused .noTape
    | some (.byte b, h) => .next ((s.setStreams h).setTty (s.tty.accept b))
    | some (.nothing, h) => .next (s.setStreams h)
    | some (.eof, h) => .next ((s.setStreams h).setTty { s.tty with ttiReaderEof := true })
    | some (.error e, _) => .fault (.ioRead e s.pc)
  else .next s

/-- The poll's output step (R263 step 4): a set printer flag raises the output request. -/
def State.pollOutput (s : State) : State :=
  if s.tty.ttoReady then s.setTty { s.tty with ttoIntPending := true } else s

/-- The poll: input step, then output step (R263, D31; log entry 20). -/
def State.poll (s : State) : Host.Outcome State Fault Refusal :=
  match s.pollInput with
  | .next s1 => .next s1.pollOutput
  | .fault f => .fault f
  | .refused r => .refused r

/-! ## The micro-ops (R270 to R280) -/

/-- KSF: skip if TTI_READY (R271). -/
def State.ksf (s : State) : State := s.skipIf s.tty.ttiReady

/-- KCC: clear AC and the keyboard flag, arm the reader (R270); the input request is cleared too (D9; log entry 21). -/
def State.kcc (s : State) : State :=
  (s.setLac (lacCla s.lac)).setTty { s.tty with ttiReady := false, ttiIntPending := false, ttiReaderRun := true }

/-- The word KRS ORs into AC: TTI_BUFFER, and bit 0o200 while the keyboard is the source (R272, D12; log entry 24). -/
def Teletype.krsWord (t : Teletype) : Word :=
  t.ttiBuffer.zeroExtend 12 ||| (if t.ttiReaderActive then 0 else 0o200)

/-- KRS: OR the buffer into AC (R272). -/
def State.krs (s : State) : State := s.setLac (lacOr s.lac s.tty.krsWord)

/-- Whether TSF skips: its bit is set and so is TTO_READY (R277). -/
def State.tsfSkips (b1 : Bool) (s : State) : Bool := b1 && s.tty.ttoReady

/-- TCF: clear the printer flag and the output request (R278). -/
def State.tcf (s : State) : State := s.setTty { s.tty with ttoReady := false, ttoIntPending := false }

/-- The byte TPC writes: AC bits 0-7 to the punch, AC bits 0-6 to the console (R276, D11; log entry 24). -/
def State.tpcByte (s : State) : Byte :=
  if s.tty.ttoPunchActive then s.lac.setWidth 8 else s.lac.setWidth 8 &&& 0o177

/-- TPC: write the byte to the current sink, then set TTO_READY; a failed write sets nothing (R276, D29). -/
def State.tpc (s : State) : Host.Outcome State Fault Refusal :=
  let done (h : Streams) : State := (s.setStreams h).setTty { s.tty with ttoReady := true }
  if s.tty.ttoPunchActive then
    match s.streams.punch with
    | none => .refused .noPunch
    | some o =>
      match o.write s.tpcByte with
      | .ok o' => .next (done { s.streams with punch := some o' })
      | .error e => .fault (.ioWrite e s.pc)
  else
    match s.streams.consoleOut.write s.tpcByte with
    | .ok o' => .next (done { s.streams with consoleOut := o' })
    | .error e => .fault (.ioWrite e s.pc)

/-- A step of the micro-op sequence, run where its bit is set. -/
def opIf (b : Bool) (f : State → State) (s : State) : State := if b then f s else s

/-- The input side's micro-ops in the order 0o1, 0o2, 0o4 (R260, R261, R274). -/
def State.ttyInput (b1 b2 b4 : Bool) (s : State) : State :=
  opIf b4 State.krs (opIf b2 State.kcc (opIf b1 State.ksf s))

/-- The micro-ops TCF and TPC of an output word, each where its bit is set (R276, R278). -/
def State.ttyOutputOps (b2 b4 : Bool) (s : State) : Host.Outcome State Fault Refusal :=
  if b4 then (opIf b2 State.tcf s).tpc else .next (opIf b2 State.tcf s)

/-- The output side's micro-ops in the order 0o1, 0o2, 0o4: TSF tests the flag first (R260, R261, R280). Its skip reaches PC only
if the word does not fail, because a failed `iot` performs no skip: the fault carries the address after the IOT (R155, R302; log
entry 12). -/
def State.ttyOutput (b1 b2 b4 : Bool) (s : State) : Host.Outcome State Fault Refusal :=
  match s.ttyOutputOps b2 b4 with
  | .next t => .next (t.skipIf (s.tsfSkips b1))
  | .fault f => .fault f
  | .refused r => .refused r

/-- The Teletype's `iot`: poll, then the micro-ops of the selector's side; a poll error runs no micro-op (R261, D21). -/
def ttyIot (sel : Selector) (fn : BitVec 3) (s : State) : Host.Outcome State Fault Refusal :=
  match s.poll with
  | .next s1 =>
    if sel = 3 then .next (s1.ttyInput (fn.getLsbD 0) (fn.getLsbD 1) (fn.getLsbD 2))
    else if sel = 4 then s1.ttyOutput (fn.getLsbD 0) (fn.getLsbD 1) (fn.getLsbD 2)
    else .next s1
  | .fault f => .fault f
  | .refused r => .refused r

/-- The Teletype's request line: either pending flag (R281, R307). The query clears neither (D10; log entry 21). -/
def Teletype.requesting (t : Teletype) : Bool := t.ttiIntPending || t.ttoIntPending

end Sys2Proof.Machine
end

