-- ==== Sys2Proof/Machine/Bus.lean ====
section
/-! DEFINITION. The device bus: which device claims a selector, dispatch of an IOT, and the interrupt poll (spec/43_iot_and_bus.md R240 to R251; 60_exceptions.md R307 to R313). -/

namespace Sys2Proof.Machine

/-- `device_numbers()`: the selectors a device claims (R244, R250). -/
def Device.selectors : Device → List Selector
  | .teletype => [3, 4]
  | .other sels => sels

/-- The claimed-selector set: every selector some registered device claims (R42; log entry 15). -/
def State.claimed (s : State) : List Selector := s.devices.flatMap Device.selectors

/-- The registered device that claims a selector, if any (R246). -/
def State.deviceFor (s : State) (sel : Selector) : Option Device :=
  s.devices.find? (fun d => d.selectors.contains sel)

/-- The `iot` of a device other than the Teletype: its next answer sets PC and LAC, masked, and may be an error (R244 to R247,
D22). It reaches nothing else. With no answer scripted it returns what it was given (log entry 14). -/
def otherIot (s : State) : Host.Outcome State Fault Refusal :=
  match s.streams.iotAnswers with
  | [] => .next s
  | a :: rest =>
    let s1 := ((s.setPc (BitVec.ofNat 12 a.pc)).setLac (BitVec.ofNat 13 a.lac)).setStreams { s.streams with iotAnswers := rest }
    match a.err with
    | none => .next s1
    | some e => .fault (.device e s1.pc)

/-- BusDispatch for a selector other than 0: the claiming device's `iot`, or nothing at all where no device claims it (R246, D8,
D13; log entries 20 and 23). -/
def busDispatch (sel : Selector) (fn : BitVec 3) (s : State) : Host.Outcome State Fault Refusal :=
  match s.deviceFor sel with
  | none => .next s
  | some .teletype => ttyIot sel fn s
  | some (.other _) => otherIot s

/-- One interrupt query's outcome: the state after it and the answer, or why it stopped. -/
inductive Query where
  | answer (s : State) (requesting : Bool)
  | fault (f : Fault)
  | refused (r : Refusal)
  deriving Repr

/-- `interrupt()` of one device (R244, R281). A device other than the Teletype gives its next answer, and `idle` with none
scripted (log entry 14). -/
def Device.query (d : Device) (s : State) : Query :=
  match d with
  | .teletype =>
    match s.poll with
    | .next s1 => .answer s1 s1.tty.requesting
    | .fault f => .fault f
    | .refused r => .refused r
  | .other _ =>
    match s.streams.interruptAnswers with
    | [] => .answer s false
    | .idle :: rest => .answer (s.setStreams { s.streams with interruptAnswers := rest }) false
    | .asserting :: rest => .answer (s.setStreams { s.streams with interruptAnswers := rest }) true
    | .error e :: _ => .fault (.device e s.pc)

/-- The interrupt poll over the devices left to ask: the first that asserts is entered and ends the poll (R249, R310, R312,
R313). -/
def interruptPoll : List Device → State → Host.Outcome State Fault Refusal
  | [], s => .next s
  | d :: ds, s =>
    match d.query s with
    | .answer s1 true => .next s1.enterInterrupt
    | .answer s1 false => interruptPoll ds s1
    | .fault f => .fault f
    | .refused r => .refused r

end Sys2Proof.Machine
end

