-- ==== Sys2Proof/Machine/Iot.lean ====
section
/-! DEFINITION. The IOT instructions: selector 0 (ION, IOF and the ignored words), the Teletype's words, and the words of any other selector (spec/43_iot_and_bus.md R240 to R247; 44_teletype.md R260 to R280). Each word of a device goes through the bus, so it acts only if a registered device claims its selector. -/

namespace Sys2Proof.Machine

/-! ## Selector 0 -/

/-- ION (R241): set the delay latch; IEN is promoted at the end of the next iteration (R153). -/
def execIon (s : State) : Host.Outcome State Fault Refusal := .next (s.setIonPending true)
/-- IOF (R242): IEN cleared at once, and a pending ION with it (D3; log entry 18). -/
def execIof (s : State) : Host.Outcome State Fault Refusal := .next ((s.setIen false).setIonPending false)

/-- A selector-0 word without an operation (R243). -/
def iotIgnored (s : State) : Host.Outcome State Fault Refusal := .next s

/-- 0o6000: ignored (R243). -/
def execIot00 (s : State) : Host.Outcome State Fault Refusal := iotIgnored s
/-- 0o6003: ignored (R243). -/
def execIot03 (s : State) : Host.Outcome State Fault Refusal := iotIgnored s
/-- 0o6004: ignored (R243). -/
def execIot04 (s : State) : Host.Outcome State Fault Refusal := iotIgnored s
/-- 0o6005: ignored (R243). -/
def execIot05 (s : State) : Host.Outcome State Fault Refusal := iotIgnored s
/-- 0o6006: ignored (R243). -/
def execIot06 (s : State) : Host.Outcome State Fault Refusal := iotIgnored s
/-- 0o6007: ignored (R243). -/
def execIot07 (s : State) : Host.Outcome State Fault Refusal := iotIgnored s

/-! ## Teletype input, selector 0o3 -/

/-- KSF (R271). -/
def execKsf (s : State) : Host.Outcome State Fault Refusal := busDispatch 3 1 s
/-- KCC (R270). -/
def execKcc (s : State) : Host.Outcome State Fault Refusal := busDispatch 3 2 s
/-- KRS (R272). -/
def execKrs (s : State) : Host.Outcome State Fault Refusal := busDispatch 3 4 s
/-- KRB: KCC then KRS (R273). -/
def execKrb (s : State) : Host.Outcome State Fault Refusal := busDispatch 3 6 s
/-- The poll alone (R274). -/
def execTti0 (s : State) : Host.Outcome State Fault Refusal := busDispatch 3 0 s
/-- KSF then KCC (R274). -/
def execKsfKcc (s : State) : Host.Outcome State Fault Refusal := busDispatch 3 3 s
/-- KSF then KRS (R274). -/
def execKsfKrs (s : State) : Host.Outcome State Fault Refusal := busDispatch 3 5 s
/-- KSF, KCC, KRS (R274). -/
def execKsfKrb (s : State) : Host.Outcome State Fault Refusal := busDispatch 3 7 s

/-! ## Teletype output, selector 0o4 -/

/-- TSF (R277). -/
def execTsf (s : State) : Host.Outcome State Fault Refusal := busDispatch 4 1 s
/-- TCF (R278). -/
def execTcf (s : State) : Host.Outcome State Fault Refusal := busDispatch 4 2 s
/-- TPC (R276). -/
def execTpc (s : State) : Host.Outcome State Fault Refusal := busDispatch 4 4 s
/-- TLS: TCF then TPC (R279). -/
def execTls (s : State) : Host.Outcome State Fault Refusal := busDispatch 4 6 s
/-- The poll alone (R280). -/
def execTto0 (s : State) : Host.Outcome State Fault Refusal := busDispatch 4 0 s
/-- TSF then TCF (R280). -/
def execTsfTcf (s : State) : Host.Outcome State Fault Refusal := busDispatch 4 3 s
/-- TSF then TPC (R280). -/
def execTsfTpc (s : State) : Host.Outcome State Fault Refusal := busDispatch 4 5 s
/-- TSF, TCF, TPC (R280). -/
def execTsfTls (s : State) : Host.Outcome State Fault Refusal := busDispatch 4 7 s

/-! ## The generic rows -/

/-- The operation field of three micro-op bits (R103, R260). -/
def fnOf (b1 b2 b4 : Bool) : BitVec 3 := (if b1 then 1 else 0) ||| (if b2 then 2 else 0) ||| (if b4 then 4 else 0)

/-- Any selector-0o3 word, by its micro-op bits (R261, row TTI). -/
def execTti (b1 b2 b4 : Bool) (s : State) : Host.Outcome State Fault Refusal := busDispatch 3 (fnOf b1 b2 b4) s

/-- Any selector-0o4 word, by its micro-op bits (R261, row TTO). -/
def execTto (b1 b2 b4 : Bool) (s : State) : Host.Outcome State Fault Refusal := busDispatch 4 (fnOf b1 b2 b4) s

/-- Any other IOT word, sent to the bus (R246, row IOT-UNCLAIMED): no operation where no device claims its selector. -/
def execIotUnclaimed (selector : Selector) (fn : BitVec 3) (s : State) : Host.Outcome State Fault Refusal := busDispatch selector fn s

end Sys2Proof.Machine
end

