-- ==== Sys2Proof/Machine/Operands.lean ====
section
/-! DEFINITION. The operand forms: the effective address of a memory-reference instruction (spec/40_cycle_and_addressing.md R144 to R148; 30_encoding.md R108). Each is read in the state after fetch, where PC is the address after the instruction (R143). -/

namespace Sys2Proof.Machine

/-- IA, the address of the instruction being executed: PC holds the next one during execute (R34, R141; log entry 16). -/
def State.instrAddr (s : State) : Word := s.pc - 1

/-- The base of current-page addressing, by PAGE_BASE (R146). -/
def State.pageBaseAddr (s : State) : Word :=
  match s.params.pageBase with
  | .instructionAddress => s.instrAddr
  | .incrementedPc => s.pc

/-- The address of the page step: page zero, or the current page (R145, R146). -/
def State.directAddr (s : State) (page : Bool) (offset : BitVec 7) : Word :=
  if page then offset.zeroExtend 12 ||| (s.pageBaseAddr &&& 0o7600) else offset.zeroExtend 12

/-- The auto-index locations 0o0010 to 0o0017 (R147). -/
def isAutoIndex (a : Word) : Bool := 0o0010 ≤ a.toNat && a.toNat ≤ 0o0017

/-- The state after the address phase: an indirect reference through an auto-index location has incremented it (R77, R147). -/
def State.afterAddress (s : State) (ind page : Bool) (offset : BitVec 7) : State :=
  let p := s.directAddr page offset
  if ind && isAutoIndex p then s.memWrite p (s.memRead p + 1) else s

/-- The effective address: the page step's address, or the word it points to after the auto-index increment (R147). -/
def State.effAddr (s : State) (ind page : Bool) (offset : BitVec 7) : Word :=
  let p := s.directAddr page offset
  if ind then (s.afterAddress ind page offset).memRead p else p

end Sys2Proof.Machine
end

