-- ==== Sys2Proof/Machine/MemoryReference.lean ====
section
/-! DEFINITION. The six memory-reference instructions (spec/41_memory_reference.md R170 to R176). Each computes its effective address once, with the auto-index increment, and then acts. None of them can fail. -/

namespace Sys2Proof.Machine

/-- AND (R170). -/
def execAnd (ind page : Bool) (offset : BitVec 7) (s : State) : Host.Outcome State Fault Refusal :=
  let ea := s.effAddr ind page offset
  let s1 := s.afterAddress ind page offset
  .next (s1.setLac (lacAnd s1.lac (s1.memRead ea)))

/-- TAD (R171). -/
def execTad (ind page : Bool) (offset : BitVec 7) (s : State) : Host.Outcome State Fault Refusal :=
  let ea := s.effAddr ind page offset
  let s1 := s.afterAddress ind page offset
  .next (s1.setLac (lacAdd s1.lac (s1.memRead ea)))

/-- ISZ (R172). -/
def execIsz (ind page : Bool) (offset : BitVec 7) (s : State) : Host.Outcome State Fault Refusal :=
  let ea := s.effAddr ind page offset
  let s1 := s.afterAddress ind page offset
  let v := s1.memRead ea + 1
  .next ((s1.memWrite ea v).skipIf (v == 0))

/-- DCA (R173). -/
def execDca (ind page : Bool) (offset : BitVec 7) (s : State) : Host.Outcome State Fault Refusal :=
  let ea := s.effAddr ind page offset
  let s1 := s.afterAddress ind page offset
  .next ((s1.memWrite ea s1.ac).setLac (lacCla s1.lac))

/-- JMS (R174): the return address is the incremented PC. -/
def execJms (ind page : Bool) (offset : BitVec 7) (s : State) : Host.Outcome State Fault Refusal :=
  let ea := s.effAddr ind page offset
  let s1 := s.afterAddress ind page offset
  .next ((s1.memWrite ea s1.pc).setPc (ea + 1))

/-- JMP (R175). -/
def execJmp (ind page : Bool) (offset : BitVec 7) (s : State) : Host.Outcome State Fault Refusal :=
  let ea := s.effAddr ind page offset
  let s1 := s.afterAddress ind page offset
  .next (s1.setPc ea)

end Sys2Proof.Machine
end

