-- ==== Sys2Proof/Machine/Operate.lean ====
section
/-! DEFINITION. The operate instructions, groups 1, 2 and 3 (spec/42_operate.md R190 to R224). Every word of a group runs the group's one sequence with its own micro-op bits; each row has a definition of its own. None reads memory or a device, and none fails. -/

namespace Sys2Proof.Machine

/-! ## The three sequences -/

/-- The group-1 sequence (R192): it writes LAC alone. -/
def runGroup1 (cla cll cma cml iac : Bool) (rot : Rotate) (s : State) : Host.Outcome State Fault Refusal :=
  .next (s.setLac (group1Lac cla cll cma cml iac rot s.lac))

/-- A group-1 word whose rotate field is 0o014 or 0o016, by UNDEF_ROTATE (R204, D16; log entry 5). -/
def runUndefRotate (cla cll cma cml iac : Bool) (s : State) : Host.Outcome State Fault Refusal :=
  match s.params.undefRotate with
  | .noop => runGroup1 cla cll cma cml iac .off s
  | .refuse => .refused .undefRotate

/-- The group-2 sequence (R206): skip test, CLA, OSR, HLT. HLT makes the outcome `halt` and changes nothing else (R217, R305). -/
def runGroup2 (cla sma sza snl rev osr hlt : Bool) (s : State) : Host.Outcome State Fault Refusal :=
  let s1 := s.skipIf (group2Skips sma sza snl rev s.lac)
  let s2 := s1.setLac (group2Lac cla osr s.sr s.lac)
  .next (if hlt then s2.setSignal .halt else s2)

/-- The group-3 sequence (R218). -/
def runGroup3 (cla mqa mql : Bool) (s : State) : Host.Outcome State Fault Refusal :=
  let r := group3 cla mqa mql s.lac s.mq
  .next ((s.setLac r.1).setMq r.2)

/-! ## Group 1 -/

/-- CLA, group 1 (R193). -/
def execCla1 (s : State) : Host.Outcome State Fault Refusal := runGroup1 true false false false false .off s
/-- CLL (R194). -/
def execCll (s : State) : Host.Outcome State Fault Refusal := runGroup1 false true false false false .off s
/-- CMA (R195). -/
def execCma (s : State) : Host.Outcome State Fault Refusal := runGroup1 false false true false false .off s
/-- CML (R196). -/
def execCml (s : State) : Host.Outcome State Fault Refusal := runGroup1 false false false true false .off s
/-- IAC (R197). -/
def execIac (s : State) : Host.Outcome State Fault Refusal := runGroup1 false false false false true .off s
/-- RAR (R198). -/
def execRar (s : State) : Host.Outcome State Fault Refusal := runGroup1 false false false false false .rar s
/-- RAL (R199). -/
def execRal (s : State) : Host.Outcome State Fault Refusal := runGroup1 false false false false false .ral s
/-- RTR (R200). -/
def execRtr (s : State) : Host.Outcome State Fault Refusal := runGroup1 false false false false false .rtr s
/-- RTL (R201). -/
def execRtl (s : State) : Host.Outcome State Fault Refusal := runGroup1 false false false false false .rtl s
/-- BSW (R202). -/
def execBsw (s : State) : Host.Outcome State Fault Refusal := runGroup1 false false false false false .bsw s
/-- The group-1 word with no micro-op (R203). -/
def execNop (s : State) : Host.Outcome State Fault Refusal := runGroup1 false false false false false .off s
/-- CMA IAC (R205). -/
def execCia (s : State) : Host.Outcome State Fault Refusal := runGroup1 false false true false true .off s
/-- CLL CML (R205). -/
def execStl (s : State) : Host.Outcome State Fault Refusal := runGroup1 false true false true false .off s
/-- CLA CMA (R205). -/
def execSta (s : State) : Host.Outcome State Fault Refusal := runGroup1 true false true false false .off s
/-- CLA RAL (R205). -/
def execGlk (s : State) : Host.Outcome State Fault Refusal := runGroup1 true false false false false .ral s
/-- CLA CLL (R205). -/
def execClaCll (s : State) : Host.Outcome State Fault Refusal := runGroup1 true true false false false .off s
/-- Any other group-1 word (R192). -/
def execOpr1 (cla cll cma cml iac : Bool) (rot : Rotate) (s : State) : Host.Outcome State Fault Refusal :=
  runGroup1 cla cll cma cml iac rot s
/-- Rotate field 0o014 (R204). -/
def execOpr1Rot014 (cla cll cma cml iac : Bool) (s : State) : Host.Outcome State Fault Refusal :=
  runUndefRotate cla cll cma cml iac s
/-- Rotate field 0o016 (R204). -/
def execOpr1Rot016 (cla cll cma cml iac : Bool) (s : State) : Host.Outcome State Fault Refusal :=
  runUndefRotate cla cll cma cml iac s

/-! ## Group 2 -/

/-- SMA (R207). -/
def execSma (s : State) : Host.Outcome State Fault Refusal := runGroup2 false true false false false false false s
/-- SZA (R208). -/
def execSza (s : State) : Host.Outcome State Fault Refusal := runGroup2 false false true false false false false s
/-- SNL (R209). -/
def execSnl (s : State) : Host.Outcome State Fault Refusal := runGroup2 false false false true false false false s
/-- SPA (R210). -/
def execSpa (s : State) : Host.Outcome State Fault Refusal := runGroup2 false true false false true false false s
/-- SNA (R211). -/
def execSna (s : State) : Host.Outcome State Fault Refusal := runGroup2 false false true false true false false s
/-- SZL (R212). -/
def execSzl (s : State) : Host.Outcome State Fault Refusal := runGroup2 false false false true true false false s
/-- Reverse with no test: always skips (R213). -/
def execSkp (s : State) : Host.Outcome State Fault Refusal := runGroup2 false false false false true false false s
/-- CLA, group 2 (R215). -/
def execCla2 (s : State) : Host.Outcome State Fault Refusal := runGroup2 true false false false false false false s
/-- OSR (R216). -/
def execOsr (s : State) : Host.Outcome State Fault Refusal := runGroup2 false false false false false true false s
/-- HLT (R217). -/
def execHlt (s : State) : Host.Outcome State Fault Refusal := runGroup2 false false false false false false true s
/-- The group-2 word with no micro-op (R213). -/
def execOpr2Nop (s : State) : Host.Outcome State Fault Refusal := runGroup2 false false false false false false false s
/-- CLA OSR (R216). -/
def execLas (s : State) : Host.Outcome State Fault Refusal := runGroup2 true false false false false true false s
/-- Any other group-2 word (R206, R214). -/
def execOpr2 (cla sma sza snl rev osr hlt : Bool) (s : State) : Host.Outcome State Fault Refusal :=
  runGroup2 cla sma sza snl rev osr hlt s

/-! ## Group 3 -/

/-- CLA, group 3 (R219). -/
def execCla3 (s : State) : Host.Outcome State Fault Refusal := runGroup3 true false false s
/-- MQA (R221). -/
def execMqa (s : State) : Host.Outcome State Fault Refusal := runGroup3 false true false s
/-- MQL (R220). -/
def execMql (s : State) : Host.Outcome State Fault Refusal := runGroup3 false false true s
/-- MQA MQL: exchange AC and MQ (R222). -/
def execSwp (s : State) : Host.Outcome State Fault Refusal := runGroup3 false true true s
/-- The group-3 word with no micro-op (R224). -/
def execOpr3Nop (s : State) : Host.Outcome State Fault Refusal := runGroup3 false false false s
/-- CLA MQL (R219). -/
def execCam (s : State) : Host.Outcome State Fault Refusal := runGroup3 true false true s
/-- CLA MQA (R219). -/
def execAcl (s : State) : Host.Outcome State Fault Refusal := runGroup3 true true false s
/-- Any other group-3 word: its CLA, MQA and MQL bits, its other bits by GROUP3_EXTRA (R218, R223, D34; log entry 5). -/
def execOpr3 (cla mqa x040 mql : Bool) (x016 : BitVec 3) (s : State) : Host.Outcome State Fault Refusal :=
  if (x040 || x016 != 0) && s.params.group3Extra == .refuse then .refused .group3Extra
  else runGroup3 cla mqa mql s

end Sys2Proof.Machine
end

