-- ==== Sys2Proof/Machine/Dispatch.lean ====
section
/-! DEFINITION. exec: one arm per constructor of Instr, in the order of spec/opcode_table.json. -/

namespace Sys2Proof.Machine

def exec (i : Instr) (s : State) : Host.Outcome State Fault Refusal :=
  match i with
  | .and ind page off => Sys2Proof.Machine.execAnd ind page off s
  | .tad ind page off => Sys2Proof.Machine.execTad ind page off s
  | .isz ind page off => Sys2Proof.Machine.execIsz ind page off s
  | .dca ind page off => Sys2Proof.Machine.execDca ind page off s
  | .jms ind page off => Sys2Proof.Machine.execJms ind page off s
  | .jmp ind page off => Sys2Proof.Machine.execJmp ind page off s
  | .ion => Sys2Proof.Machine.execIon s
  | .iof => Sys2Proof.Machine.execIof s
  | .iot00 => Sys2Proof.Machine.execIot00 s
  | .iot03 => Sys2Proof.Machine.execIot03 s
  | .iot04 => Sys2Proof.Machine.execIot04 s
  | .iot05 => Sys2Proof.Machine.execIot05 s
  | .iot06 => Sys2Proof.Machine.execIot06 s
  | .iot07 => Sys2Proof.Machine.execIot07 s
  | .ksf => Sys2Proof.Machine.execKsf s
  | .kcc => Sys2Proof.Machine.execKcc s
  | .krs => Sys2Proof.Machine.execKrs s
  | .krb => Sys2Proof.Machine.execKrb s
  | .tti0 => Sys2Proof.Machine.execTti0 s
  | .ksfKcc => Sys2Proof.Machine.execKsfKcc s
  | .ksfKrs => Sys2Proof.Machine.execKsfKrs s
  | .ksfKrb => Sys2Proof.Machine.execKsfKrb s
  | .tsf => Sys2Proof.Machine.execTsf s
  | .tcf => Sys2Proof.Machine.execTcf s
  | .tpc => Sys2Proof.Machine.execTpc s
  | .tls => Sys2Proof.Machine.execTls s
  | .tto0 => Sys2Proof.Machine.execTto0 s
  | .tsfTcf => Sys2Proof.Machine.execTsfTcf s
  | .tsfTpc => Sys2Proof.Machine.execTsfTpc s
  | .tsfTls => Sys2Proof.Machine.execTsfTls s
  | .tti b1 b2 b4 => Sys2Proof.Machine.execTti b1 b2 b4 s
  | .tto b1 b2 b4 => Sys2Proof.Machine.execTto b1 b2 b4 s
  | .iotUnclaimed selector fn => Sys2Proof.Machine.execIotUnclaimed selector fn s
  | .cla1 => Sys2Proof.Machine.execCla1 s
  | .cll => Sys2Proof.Machine.execCll s
  | .cma => Sys2Proof.Machine.execCma s
  | .cml => Sys2Proof.Machine.execCml s
  | .iac => Sys2Proof.Machine.execIac s
  | .rar => Sys2Proof.Machine.execRar s
  | .ral => Sys2Proof.Machine.execRal s
  | .rtr => Sys2Proof.Machine.execRtr s
  | .rtl => Sys2Proof.Machine.execRtl s
  | .bsw => Sys2Proof.Machine.execBsw s
  | .nop => Sys2Proof.Machine.execNop s
  | .opr1Rot014 cla cll cma cml iac => Sys2Proof.Machine.execOpr1Rot014 cla cll cma cml iac s
  | .opr1Rot016 cla cll cma cml iac => Sys2Proof.Machine.execOpr1Rot016 cla cll cma cml iac s
  | .cia => Sys2Proof.Machine.execCia s
  | .stl => Sys2Proof.Machine.execStl s
  | .sta => Sys2Proof.Machine.execSta s
  | .glk => Sys2Proof.Machine.execGlk s
  | .claCll => Sys2Proof.Machine.execClaCll s
  | .opr1 cla cll cma cml iac rot => Sys2Proof.Machine.execOpr1 cla cll cma cml iac rot s
  | .sma => Sys2Proof.Machine.execSma s
  | .sza => Sys2Proof.Machine.execSza s
  | .snl => Sys2Proof.Machine.execSnl s
  | .spa => Sys2Proof.Machine.execSpa s
  | .sna => Sys2Proof.Machine.execSna s
  | .szl => Sys2Proof.Machine.execSzl s
  | .skp => Sys2Proof.Machine.execSkp s
  | .cla2 => Sys2Proof.Machine.execCla2 s
  | .osr => Sys2Proof.Machine.execOsr s
  | .hlt => Sys2Proof.Machine.execHlt s
  | .opr2Nop => Sys2Proof.Machine.execOpr2Nop s
  | .las => Sys2Proof.Machine.execLas s
  | .opr2 cla sma sza snl rev osr hlt => Sys2Proof.Machine.execOpr2 cla sma sza snl rev osr hlt s
  | .cla3 => Sys2Proof.Machine.execCla3 s
  | .mqa => Sys2Proof.Machine.execMqa s
  | .mql => Sys2Proof.Machine.execMql s
  | .swp => Sys2Proof.Machine.execSwp s
  | .opr3Nop => Sys2Proof.Machine.execOpr3Nop s
  | .cam => Sys2Proof.Machine.execCam s
  | .acl => Sys2Proof.Machine.execAcl s
  | .opr3 cla mqa x040 mql x016 => Sys2Proof.Machine.execOpr3 cla mqa x040 mql x016 s

end Sys2Proof.Machine
end

