-- ==== Sys2Proof/Machine/Cycle.lean ====
section
/-! DEFINITION. One iteration of the run loop: fetch, execute, promotion, halt, interrupt poll, exit (spec/40_cycle_and_addressing.md R140 to R156). -/

namespace Sys2Proof.Machine

/-- The interrupt poll of an iteration: only while IEN is set (R151, R308). -/
def State.pollIfEnabled (s : State) : Host.Outcome State Fault Refusal :=
  if s.ien then interruptPoll s.devices s else .next s

/-- The end of an iteration that began with `p` in ION_PENDING, after its instruction went well (R151): promotion, then a halt
ends it with no poll (D6; log entry 19), else the interrupt poll and the exit request. -/
def State.endIteration (p : Bool) (s : State) : Host.Outcome State Fault Refusal :=
  let s1 := s.promote p
  if s1.signal = .halt then .next s1
  else
    match s1.pollIfEnabled with
    | .next s2 => .next s2.takeExit
    | .fault f => .fault f
    | .refused r => .refused r

/-- The instruction an iteration executes: decode reads only IR (R142). -/
def State.fetched (s : State) : Instr := decode s.fetch.ir

/-- One iteration of Run (R140, R151). ION_PENDING is captured before the fetch (D5). An error ends the iteration at once (R302). -/
def iteration (s : State) : Host.Outcome State Fault Refusal :=
  match exec s.fetched s.fetch with
  | .next s1 => s1.endIteration s.ionPending
  | .fault f => .fault f
  | .refused r => .refused r

/-- `s` with the instruction of bits `w` stored where the next iteration fetches: at PC (R141). One instruction is one word (R100). -/
def State.placeInstr (s : State) (_nbits w : Nat) : State := s.memWrite s.pc (BitVec.ofNat 12 w)

end Sys2Proof.Machine
end

