-- ==== Sys2Proof/Machine/Step.lean ====
section
/-! DEFINITION. The step of the machine: one iteration of Run (spec/40_cycle_and_addressing.md R140, R151), and the word a step fetches. -/

namespace Sys2Proof.Machine

/-- One step: one iteration of Run, so `Run(1)` (R151, R322). -/
def step (s : State) : Host.Outcome State Fault Refusal := Sys2Proof.Machine.iteration s

/-- `s` with the given instruction where the next step fetches it. -/
def State.withFetchWord (s : State) (nbits w : Nat) : State := s.placeInstr nbits w

end Sys2Proof.Machine
end

