-- ==== Sys2Proof/Machine/HostOps.lean ====
section
/-! DEFINITION. The host operations, each run between steps (spec/70_reset_and_hazards.md R343, R346; 43_iot_and_bus.md R248; 44_teletype.md R282). Run is in Machine/Run.lean; inspection is reading a field of State (R322). -/

namespace Sys2Proof.Machine

/-- construct Teletype(console_in, console_out): the Teletype of R43 over the console streams the host gives it, with no tape and
no punch attached (R341, R343, R346). -/
def constructTeletype (consoleIn : List ReadAnswer) (consoleOut : Sink) (s : State) : State :=
  (s.setStreams { s.streams with consoleIn := consoleIn, tape := none, consoleOut := consoleOut, punch := none }).setTty
    Teletype.constructed

/-- Register(device): appended to the device list; refused where it claims selector 0 or a claimed one (R248, R301). -/
def registerDevice (d : Device) (s : State) : Host.Outcome State Fault Refusal :=
  if d.selectors.any (fun sel => sel == 0 || s.claimed.contains sel) then .refused .regConflict
  else .next (s.setDevices (s.devices ++ [d]))

/-- LoadImage(addr, words): each word masked, addresses modulo 4096 (R346, D17). -/
def loadImage (addr : Word) : List Nat → State → State
  | [], s => s
  | w :: ws, s => loadImage (addr + 1) ws (s.memWrite addr (BitVec.ofNat 12 w))

/-- SetPC(v) (R343, R346). -/
def setPC (v : Nat) (s : State) : State := { s with pc := BitVec.ofNat 12 v, pcSet := true }

/-- SetSR(v) (R37, R346). -/
def setSR (v : Nat) (s : State) : State := s.setSr (BitVec.ofNat 12 v)

/-- ReaderAttach(stream): READER_POS and the end-of-stream flag restart; source and arming are kept (R282). -/
def readerAttach (tape : List TapeItem) (s : State) : State :=
  (s.setStreams { s.streams with tape := some tape }).setTty { s.tty with readerPos := 0, ttiReaderEof := false }

/-- ReaderStart: the tape becomes the input source; refused with no tape attached (R282, D23). -/
def readerStart (s : State) : Host.Outcome State Fault Refusal :=
  if s.streams.tape.isSome then .next (s.setTty { s.tty with ttiReaderActive := true }) else .refused .noTape

/-- ReaderStop: the console becomes the input source (R282). -/
def readerStop (s : State) : State := s.setTty { s.tty with ttiReaderActive := false }

/-- PunchAttach(stream) (R282). -/
def punchAttach (sink : Sink) (s : State) : State := s.setStreams { s.streams with punch := some sink }

/-- PunchStart: the punch becomes the output sink; refused with none attached (R282, D23). -/
def punchStart (s : State) : Host.Outcome State Fault Refusal :=
  if s.streams.punch.isSome then .next (s.setTty { s.tty with ttoPunchActive := true }) else .refused .noPunch

/-- PunchStop: the console becomes the output sink (R282). -/
def punchStop (s : State) : State := s.setTty { s.tty with ttoPunchActive := false }

/-- The operator's coming input: answers the console input will give after those already pending (R262, D18). -/
def consoleFeed (answers : List ReadAnswer) (s : State) : State :=
  s.setStreams { s.streams with consoleIn := s.streams.consoleIn ++ answers }

end Sys2Proof.Machine
end

