-- ==== Sys2Proof/Machine/Run.lean ====
section
/-! DEFINITION. Run(budget) and its outcomes (spec/40_cycle_and_addressing.md R150 to R155). -/

namespace Sys2Proof.Machine

/-- What Run returns (R150, R301), with the state it leaves where the spec fixes one, and the budget left. -/
inductive RunResult where
  | halted (left : Nat) (s : State)
  | exhausted (s : State)
  | exit (left : Nat) (s : State)
  | error (left : Nat) (f : Fault)
  | refused (r : Refusal)
  deriving Repr

/-- The loop of Run: one unit of budget an iteration, whatever the instruction (R151, R152). -/
def runLoop : Nat → State → RunResult
  | 0, s => .exhausted s
  | n + 1, s =>
    match step s with
    | .fault f => .error n f
    | .refused r => .refused r
    | .next t =>
      match t.signal with
      | .halt => .halted n t
      | .exit => .exit n t
      | .cont => runLoop n t

/-- Run: refused on a machine whose PC the host never set (R343, U13; log entry 11). -/
def run (budget : Nat) (s : State) : RunResult :=
  if s.pcSet then runLoop budget s else .refused .pcNeverSet

end Sys2Proof.Machine
end

