-- ==== Sys2Proof/Safety.lean ====
section
/-! DEFINITION. What counts as a sound state and a safe run: the invariant of the machine, streams without errors, the conditions under which a Teletype instruction goes well, and the words the statements share. -/

namespace Sys2Proof.Machine

/-! ## The invariant -/

/-- TTI_READY and TTI_READER_RUN are never both 1 (R44). -/
abbrev Teletype.ReadyOrArmed (t : Teletype) : Prop := ¬ (t.ttiReady = true ∧ t.ttiReaderRun = true)

/-- The pending bits follow the ready flags: the input request stands exactly while a byte is held, the output request only
while the printer flag is set (R263, R265, R270, R278, R313). -/
abbrev Teletype.RequestsFollowFlags (t : Teletype) : Prop :=
  t.ttiIntPending = t.ttiReady ∧ (t.ttoIntPending = true → t.ttoReady = true)

/-- A started reader has a tape and a started punch a sink: the host attaches before it starts (R282). -/
abbrev State.StartedAreAttached (s : State) : Prop :=
  (s.tty.ttiReaderActive = true → s.streams.tape.isSome = true) ∧
  (s.tty.ttoPunchActive = true → s.streams.punch.isSome = true)

/-- No selector is claimed twice, and none claims the CPU's (R248). -/
abbrev State.BusSound (s : State) : Prop := s.claimed.Nodup ∧ (0 : Selector) ∉ s.claimed

/-- The invariant at an instruction boundary. -/
abbrev State.Inv (s : State) : Prop :=
  s.mem.wf ∧ s.tty.ReadyOrArmed ∧ s.tty.RequestsFollowFlags ∧ s.tty.exitRequest = false ∧
  s.StartedAreAttached ∧ s.BusSound

/-! ## Streams without errors (R262) -/

def ReadAnswer.isError : ReadAnswer → Bool
  | .error _ => true
  | .byte _ | .nothing | .eof => false

def TapeItem.isError : TapeItem → Bool
  | .error _ => true
  | .byte _ | .nothing => false

def WriteAnswer.isError : WriteAnswer → Bool
  | .error _ => true
  | .ok => false

def InterruptAnswer.isError : InterruptAnswer → Bool
  | .error _ => true
  | .idle | .asserting => false

/-- A sink whose coming writes are all answered `ok`. -/
def Sink.clean (o : Sink) : Bool := o.answers.all (fun a => !a.isError)

/-- No stream and no device will answer an error: the premise "no I/O error" of R155. -/
def Streams.clean (h : Streams) : Bool :=
  h.consoleIn.all (fun a => !a.isError) &&
  (h.tape.getD []).all (fun a => !a.isError) &&
  h.consoleOut.clean &&
  (match h.punch with | none => true | some o => o.clean) &&
  h.iotAnswers.all (fun a => a.err.isNone) &&
  h.interruptAnswers.all (fun a => !a.isError)

/-! ## When a poll and a write go well -/

/-- The coming poll ends without an error: it does not read, or its source is there and answers no error (R264, R269). -/
def State.pollGoesWell (s : State) : Bool :=
  !s.tty.wantsRead ||
  (match s.tty.ttiReaderActive, s.streams.tape, s.streams.consoleIn with
   | true, none, _ => false
   | true, some (.error _ :: _), _ => false
   | true, some _, _ => true
   | false, _, .error _ :: _ => false
   | false, _, _ => true)

/-- The sink TPC would write to, if there is one (R276). -/
def State.currentSink (s : State) : Option Sink :=
  if s.tty.ttoPunchActive then s.streams.punch else some s.streams.consoleOut

/-- The coming write ends without an error: its sink is there and answers no error (R276, D29). -/
def State.writeGoesWell (s : State) : Bool :=
  match s.currentSink with
  | none => false
  | some o => !((o.answers.head?).getD .ok).isError

/-- The bytes the current sink has accepted, or none where there is no sink. -/
def State.sinkBytes (s : State) : List Byte := (s.currentSink.map Sink.written).getD []

/-- How many bytes are left on a tape. -/
def bytesOnTape (tape : Option (List TapeItem)) : Nat :=
  ((tape.getD []).filter (fun i => match i with | .byte _ => true | .nothing => false | .error _ => false)).length

/-- The state after asking each of the devices in order for an interrupt, where none of them asserts one or fails. -/
def noneAsserts : List Device → State → Option State
  | [], s => some s
  | d :: ds, s =>
    match d.query s with
    | .answer s1 false => noneAsserts ds s1
    | .answer _ true | .fault _ | .refused _ => none

/-! ## Frames and classes of instructions -/

/-- Memory of `t` as in `s`, but for the word stored to and for the pointer an indirect reference auto-increments (R76, R77). -/
def MriMemoryFrame (s t : State) (ind page : Bool) (offset : BitVec 7) (stored : Option Word) : Prop :=
  ∀ a : Word, stored ≠ some a →
    (ind = true → isAutoIndex (s.directAddr page offset) = true → a ≠ s.directAddr page offset) →
    t.memRead a = s.memRead a

/-- The six memory-reference instructions (R101). -/
def isMri : Instr → Bool
  | .and _ _ _ | .tad _ _ _ | .isz _ _ _ | .dca _ _ _ | .jms _ _ _ | .jmp _ _ _ => true
  | _ => false

/-- The selector of an instruction that goes to the device bus (R240). -/
def busSelector : Instr → Option Selector
  | .ksf | .kcc | .krs | .krb | .tti0 | .ksfKcc | .ksfKrs | .ksfKrb | .tti _ _ _ => some 3
  | .tsf | .tcf | .tpc | .tls | .tto0 | .tsfTcf | .tsfTpc | .tsfTls | .tto _ _ _ => some 4
  | .iotUnclaimed sel _ => some sel
  | _ => none

/-- The instructions with the micro-op TPC (R276, R279, R280). -/
def hasTpc : Instr → Bool
  | .tpc | .tls | .tsfTpc | .tsfTls => true
  | .tto _ _ b4 => b4
  | _ => false

/-- The instructions with the micro-op MQL (R220). -/
def hasMql : Instr → Bool
  | .mql | .swp | .cam => true
  | .opr3 _ _ _ mql _ => mql
  | _ => false

/-- How many bits of a word are 1 (R117). -/
def bitCount (w : Word) : Nat := ((List.range 12).filter (fun k => w.getLsbD k)).length

end Sys2Proof.Machine
end

