-- ==== Sys2Proof/Certificates/Slice0/Obligations.lean ====
section
/-! DEFINITION. The statements for the provers, one def a statement; OBLIGATIONS.json lists them in this order. -/

open Sys2Proof Sys2Proof.Machine

/-- For every well-formed instruction i, with every operand at every value its encoding admits, decode (encode i) = i. (Derived from 30_encoding.md sections 2 to 5.) -/
def Obligations.DecodeOfEncodeIsIdentity : Prop :=
  ∀ i : Instr, wellFormed i = true → decode (encode i) = i

/-- For every 12-bit word w, decode w is well-formed and encode (decode w) = w: no word is rejected and no bit is dropped. (Derived from 30_encoding.md section 5, R113, 30_encoding.md section 6, R117.) -/
def Obligations.EncodeOfDecodeIsIdentity : Prop :=
  ∀ w : Word, wellFormed (decode w) = true ∧ encode (decode w) = w

/-- For every word w, the row of decode w is in the table and matches w, and every other row that matches w has fewer mask bits. (Derived from 30_encoding.md section 6, R117, opcode_table.json.) -/
def Obligations.DecodePicksMostSpecificRow : Prop :=
  ∀ w : Word,
    (rowMatch (decode w), rowMask (decode w)) ∈ tableRows ∧
    w &&& rowMask (decode w) = rowMatch (decode w) ∧
    ∀ r ∈ tableRows, w &&& r.2 = r.1 →
      r = (rowMatch (decode w), rowMask (decode w)) ∨ bitCount r.2 < bitCount (rowMask (decode w))

/-- TAD with page bit and offset 6 is 0o1206, JMP I with page bit and offset 0o10 is 0o5610, and so on for one or two words of each family. (Derived from 30_encoding.md sections 2 and 4, 95_test_vectors.md L2.) -/
def Obligations.WrittenOutWordsDecode : Prop :=
  decode 0o1206 = .tad false true 0o006 ∧
  decode 0o5610 = .jmp true true 0o010 ∧
  decode 0o6001 = .ion ∧
  decode 0o6036 = .krb ∧
  decode 0o6045 = .tsfTpc ∧
  decode 0o6101 = .iotUnclaimed 0o10 1 ∧
  decode 0o7003 = .opr1 false false false false true .bsw ∧
  decode 0o7214 = .opr1Rot014 true false false false false ∧
  decode 0o7640 = .opr2 true false true false false false false ∧
  decode 0o7403 = .opr3 false false false false 1

/-- If the word at PC decodes to i, step is exec of i on the state with IR loaded, PC advanced and the model's signal reset (log entry 9), followed by endIteration with the ION_PENDING captured before the fetch; a fault or refusal of exec is the step's. (Derived from 40_cycle_and_addressing.md section 3, R151, 92_eei_decisions.md D5, D6.) -/
def Obligations.StepRunsDecodedInstruction : Prop :=
  ∀ (s : State) (i : Instr), decode (s.memRead s.pc) = i →
    step s =
      match exec i { s with ir := s.memRead s.pc, pc := s.pc + 1, signal := .cont } with
      | .next t => t.endIteration s.ionPending
      | .fault f => .fault f
      | .refused r => .refused r

/-- After fetch IR is the word at the old PC, PC is the old PC plus one modulo 4096, IA is the old PC, and nothing else of the core, memory or Teletype changed. The last clause also says that fetch sets the field signal to continue: that field and its reset are the model's own choice (log entry 9), no rule of the spec. (Derived from 40_cycle_and_addressing.md section 1, R141 and R142.) -/
def Obligations.FetchLoadsNextWord : Prop :=
  ∀ s : State,
    s.fetch.ir = s.memRead s.pc ∧ s.fetch.pc.toNat = (s.pc.toNat + 1) % 4096 ∧ s.fetch.instrAddr = s.pc ∧
    s.fetch = { s with ir := s.fetch.ir, pc := s.fetch.pc, signal := .cont }

/-- With u the state after promotion: a halt ends the iteration at u with no poll; with IEN 0 no device is asked; with IEN 1 the devices are polled in order; without a halt a set EXIT_REQUEST is then cleared and ends Run with Exit. The order is the spec's own decision (log entries 19 and 22). (Derived from 40_cycle_and_addressing.md section 3, R151 and R153, 92_eei_decisions.md D5, D6, D20.) -/
def Obligations.EndOfIterationOrder : Prop :=
  ∀ (p : Bool) (s : State),
    let u := if p && s.ionPending then { s with ien := true, ionPending := false } else s
    let exiting (t : State) : State :=
      if t.tty.exitRequest then { t with tty := { t.tty with exitRequest := false }, signal := .exit } else t
    (u.signal = .halt → s.endIteration p = .next u) ∧
    (u.signal ≠ .halt → u.ien = false → s.endIteration p = .next (exiting u)) ∧
    (u.signal ≠ .halt → u.ien = true →
      s.endIteration p =
        match interruptPoll u.devices u with
        | .next t => .next (exiting t)
        | .fault f => .fault f
        | .refused r => .refused r)

/-- With the page bit clear the address is the offset; with it set, the offset on the page of IA (PC - 1 during execute) under instruction_address, on the page of PC under incremented_pc. (Formalises R145, R146.) -/
def Obligations.PageStepAddress : Prop :=
  ∀ (off : BitVec 7) (s : State),
    (s.directAddr false off).toNat = off.toNat ∧
    (s.params.pageBase = .instructionAddress →
      (s.directAddr true off).toNat = off.toNat + 128 * ((s.pc - 1).toNat / 128)) ∧
    (s.params.pageBase = .incrementedPc →
      (s.directAddr true off).toNat = off.toNat + 128 * (s.pc.toNat / 128))

/-- With the indirect bit clear the page step's address p is the EA and nothing changes. With it set and p in 0o0010-0o0017, the word at p is incremented modulo 4096, no other word changes, and the incremented word is the EA. With it set and p elsewhere, the word at p is the EA and nothing changes. (Formalises R147.) -/
def Obligations.IndirectAddressAutoIndexes : Prop :=
  ∀ (page : Bool) (off : BitVec 7) (s : State),
    let p := s.directAddr page off
    let s1 := s.afterAddress true page off
    (s.effAddr false page off = p ∧ s.afterAddress false page off = s) ∧
    (8 ≤ p.toNat ∧ p.toNat ≤ 15 →
      (s1.memRead p).toNat = ((s.memRead p).toNat + 1) % 4096 ∧
      s.effAddr true page off = s1.memRead p ∧
      (∀ a : Word, a ≠ p → s1.memRead a = s.memRead a) ∧
      s1 = { s with mem := s1.mem }) ∧
    (p.toNat < 8 ∨ 15 < p.toNat → s1 = s ∧ s.effAddr true page off = s.memRead p)

/-- AND completes in every state: AC becomes AC AND M[EA], the Link is kept, memory is as after the address phase, every other register is unchanged. (Formalises R170.) -/
def Obligations.AndResult : Prop :=
  ∀ (ind page : Bool) (off : BitVec 7) (s : State),
    let ea := s.effAddr ind page off
    let s1 := s.afterAddress ind page off
    let m := s1.memRead ea
    ∃ t, exec (.and ind page off) s = .next t ∧
      t.ac = s.ac &&& m ∧ t.link = s.link ∧ t.mem = s1.mem ∧
      t = { s with lac := t.lac, mem := t.mem } ∧ MriMemoryFrame s t ind page off none

/-- TAD completes in every state: LAC becomes LAC + M[EA] modulo 2^13, the Link is complemented exactly on a carry out of AC bit 11, memory is as after the address phase, every other register is unchanged. (Formalises R171.) -/
def Obligations.TadResult : Prop :=
  ∀ (ind page : Bool) (off : BitVec 7) (s : State),
    let ea := s.effAddr ind page off
    let s1 := s.afterAddress ind page off
    let m := s1.memRead ea
    ∃ t, exec (.tad ind page off) s = .next t ∧
      t.lac.toNat = (s.lac.toNat + m.toNat) % 8192 ∧
      t.ac.toNat = (s.ac.toNat + m.toNat) % 4096 ∧
      t.link = (s.link ^^ decide (4096 ≤ s.ac.toNat + m.toNat)) ∧ t.mem = s1.mem ∧
      t = { s with lac := t.lac, mem := t.mem } ∧ MriMemoryFrame s t ind page off none

/-- ISZ completes in every state: M[EA] becomes M[EA] + 1 modulo 4096, PC advances by one more exactly when the result is 0, no word but M[EA] changes after the address phase, every other register is unchanged. (Formalises R172.) -/
def Obligations.IszResult : Prop :=
  ∀ (ind page : Bool) (off : BitVec 7) (s : State),
    let ea := s.effAddr ind page off
    let s1 := s.afterAddress ind page off
    let m := s1.memRead ea
    ∃ t, exec (.isz ind page off) s = .next t ∧
      (t.memRead ea).toNat = (m.toNat + 1) % 4096 ∧
      t.pc = (if m.toNat = 4095 then s.pc + 1 else s.pc) ∧
      (∀ a : Word, a ≠ ea → t.memRead a = s1.memRead a) ∧
      t = { s with pc := t.pc, mem := t.mem } ∧ MriMemoryFrame s t ind page off (some ea)

/-- DCA completes in every state: M[EA] becomes AC, AC becomes 0, the Link is kept, no word but M[EA] changes after the address phase, every other register is unchanged. (Formalises R173.) -/
def Obligations.DcaResult : Prop :=
  ∀ (ind page : Bool) (off : BitVec 7) (s : State),
    let ea := s.effAddr ind page off
    let s1 := s.afterAddress ind page off
    ∃ t, exec (.dca ind page off) s = .next t ∧
      t.memRead ea = s.ac ∧ t.ac = 0 ∧ t.link = s.link ∧
      (∀ a : Word, a ≠ ea → t.memRead a = s1.memRead a) ∧
      t = { s with lac := t.lac, mem := t.mem } ∧ MriMemoryFrame s t ind page off (some ea)

/-- JMS completes in every state: M[EA] becomes PC (the address after the JMS), PC becomes EA + 1 modulo 4096, no word but M[EA] changes after the address phase, every other register is unchanged. (Formalises R174.) -/
def Obligations.JmsResult : Prop :=
  ∀ (ind page : Bool) (off : BitVec 7) (s : State),
    let ea := s.effAddr ind page off
    let s1 := s.afterAddress ind page off
    ∃ t, exec (.jms ind page off) s = .next t ∧
      t.memRead ea = s.pc ∧ t.pc.toNat = (ea.toNat + 1) % 4096 ∧
      (∀ a : Word, a ≠ ea → t.memRead a = s1.memRead a) ∧
      t = { s with pc := t.pc, mem := t.mem } ∧ MriMemoryFrame s t ind page off (some ea)

/-- JMP completes in every state: PC becomes EA, memory is as after the address phase, every other register is unchanged. (Formalises R175.) -/
def Obligations.JmpResult : Prop :=
  ∀ (ind page : Bool) (off : BitVec 7) (s : State),
    let ea := s.effAddr ind page off
    let s1 := s.afterAddress ind page off
    ∃ t, exec (.jmp ind page off) s = .next t ∧
      t.pc = ea ∧ t.mem = s1.mem ∧
      t = { s with pc := t.pc, mem := t.mem } ∧ MriMemoryFrame s t ind page off none

/-- Each completes in every state and changes LAC alone: CLA clears AC and keeps the Link; CLL clears the Link and keeps AC; CMA complements AC and keeps the Link; CML complements the Link and keeps AC; 0o7000 changes nothing. (Formalises R193, R194, R195, R196, R203.) -/
def Obligations.ClearAndComplementResults : Prop :=
  ∀ s : State,
    (∃ t, exec .cla1 s = .next t ∧ t = { s with lac := t.lac } ∧ t.ac = 0 ∧ t.link = s.link) ∧
    (∃ t, exec .cll s = .next t ∧ t = { s with lac := t.lac } ∧ t.ac = s.ac ∧ t.link = false) ∧
    (∃ t, exec .cma s = .next t ∧ t = { s with lac := t.lac } ∧ t.ac = ~~~s.ac ∧ t.link = s.link) ∧
    (∃ t, exec .cml s = .next t ∧ t = { s with lac := t.lac } ∧ t.ac = s.ac ∧ t.link = !s.link) ∧
    exec .nop s = .next s

/-- IAC completes in every state, changes LAC alone, adds one modulo 2^13, and complements the Link exactly when AC was 0o7777. (Formalises R197.) -/
def Obligations.IacResult : Prop :=
  ∀ s : State, ∃ t, exec .iac s = .next t ∧ t = { s with lac := t.lac } ∧
    t.lac.toNat = (s.lac.toNat + 1) % 8192 ∧ t.link = (s.link ^^ decide (s.ac.toNat = 4095))

/-- Each completes in every state and changes LAC alone. RAR: bit i takes bit i+1, and bit 12 (the Link) takes bit 0. RAL: bit i+1 takes bit i, and bit 0 takes bit 12. (Formalises R198, R199.) -/
def Obligations.SingleRotateResults : Prop :=
  ∀ s : State,
    (∃ t, exec .rar s = .next t ∧ t = { s with lac := t.lac } ∧
      t.link = s.lac.getLsbD 0 ∧ ∀ i < 12, t.lac.getLsbD i = s.lac.getLsbD (i + 1)) ∧
    (∃ t, exec .ral s = .next t ∧ t = { s with lac := t.lac } ∧
      t.lac.getLsbD 0 = s.link ∧ ∀ i < 12, t.lac.getLsbD (i + 1) = s.lac.getLsbD i)

/-- Each completes in every state and changes LAC alone. RTR: bit i takes bit i+2 for i up to 10, bit 11 takes bit 0, bit 12 takes bit 1. RTL: bit i+2 takes bit i for i up to 10, bit 0 takes bit 11, bit 1 takes bit 12. (Formalises R200, R201.) -/
def Obligations.DoubleRotateResults : Prop :=
  ∀ s : State,
    (∃ t, exec .rtr s = .next t ∧ t = { s with lac := t.lac } ∧
      t.lac.getLsbD 11 = s.lac.getLsbD 0 ∧ t.link = s.lac.getLsbD 1 ∧
      ∀ i < 11, t.lac.getLsbD i = s.lac.getLsbD (i + 2)) ∧
    (∃ t, exec .rtl s = .next t ∧ t = { s with lac := t.lac } ∧
      t.lac.getLsbD 0 = s.lac.getLsbD 11 ∧ t.lac.getLsbD 1 = s.link ∧
      ∀ i < 11, t.lac.getLsbD (i + 2) = s.lac.getLsbD i)

/-- From every state, RAR then RAL gives the state back, RAL then RAR too, and the double rotates likewise. (Derived from 42_operate.md section 1, R191, 95_test_vectors.md L1.5 I-7.) -/
def Obligations.RotatesUndoEachOther : Prop :=
  ∀ s : State,
    (∃ t, exec .rar s = .next t ∧ exec .ral t = .next s) ∧
    (∃ t, exec .ral s = .next t ∧ exec .rar t = .next s) ∧
    (∃ t, exec .rtr s = .next t ∧ exec .rtl t = .next s) ∧
    (∃ t, exec .rtl s = .next t ∧ exec .rtr t = .next s)

/-- BSW completes in every state, changes LAC alone, gives AC its two 6-bit halves exchanged, keeps the Link, and run twice gives the state back. (Formalises R202.) -/
def Obligations.BswResult : Prop :=
  ∀ s : State, ∃ t, exec .bsw s = .next t ∧ t = { s with lac := t.lac } ∧
    t.ac.toNat = s.ac.toNat % 64 * 64 + s.ac.toNat / 64 ∧ t.link = s.link ∧ exec .bsw t = .next s

/-- Each completes in every state and changes LAC alone: CIA negates AC and complements the Link exactly when AC was 0; STL sets the Link; STA sets AC to 0o7777; GLK moves the Link into AC and clears it; CLA CLL clears LAC. (Derived from 42_operate.md section 2, R205.) -/
def Obligations.CombinedGroup1Results : Prop :=
  ∀ s : State,
    (∃ t, exec .cia s = .next t ∧ t = { s with lac := t.lac } ∧
      t.ac.toNat = (4096 - s.ac.toNat) % 4096 ∧ t.link = (s.link ^^ decide (s.ac.toNat = 0))) ∧
    (∃ t, exec .stl s = .next t ∧ t = { s with lac := t.lac } ∧ t.ac = s.ac ∧ t.link = true) ∧
    (∃ t, exec .sta s = .next t ∧ t = { s with lac := t.lac } ∧ t.ac = 0o7777 ∧ t.link = s.link) ∧
    (∃ t, exec .glk s = .next t ∧ t = { s with lac := t.lac } ∧
      t.ac = (if s.link then 1 else 0) ∧ t.link = false) ∧
    exec .claCll s = .next { s with lac := 0 }

/-- Each completes in every state; PC advances by one more exactly when AC bit 11 is set (SMA) or clear (SPA), AC is zero (SZA) or not (SNA), the Link is set (SNL) or clear (SZL); nothing else changes. (Formalises R207, R208, R209, R210, R211, R212.) -/
def Obligations.SkipTestResults : Prop :=
  ∀ s : State,
    exec .sma s = .next { s with pc := if s.ac.getLsbD 11 = true then s.pc + 1 else s.pc } ∧
    exec .sza s = .next { s with pc := if s.ac = 0 then s.pc + 1 else s.pc } ∧
    exec .snl s = .next { s with pc := if s.link = true then s.pc + 1 else s.pc } ∧
    exec .spa s = .next { s with pc := if s.ac.getLsbD 11 = false then s.pc + 1 else s.pc } ∧
    exec .sna s = .next { s with pc := if s.ac = 0 then s.pc else s.pc + 1 } ∧
    exec .szl s = .next { s with pc := if s.link = false then s.pc + 1 else s.pc }

/-- Each completes in every state and changes LAC alone, keeping the Link: CLA clears AC; OSR ORs SR into AC; CLA OSR loads AC from SR; none of them skips. (Formalises R215, R216.) -/
def Obligations.Group2ClearAndSwitches : Prop :=
  ∀ s : State,
    (∃ t, exec .cla2 s = .next t ∧ t = { s with lac := t.lac } ∧ t.ac = 0 ∧ t.link = s.link) ∧
    (∃ t, exec .osr s = .next t ∧ t = { s with lac := t.lac } ∧ t.ac = s.ac ||| s.sr ∧ t.link = s.link) ∧
    (∃ t, exec .las s = .next t ∧ t = { s with lac := t.lac } ∧ t.ac = s.sr ∧ t.link = s.link) ∧
    (∀ sza : Bool, ∃ t, exec (.opr2 true false sza false false false false) s = .next t ∧
      t.ac = 0 ∧ t.pc = if sza = true ∧ s.ac = 0 then s.pc + 1 else s.pc)

/-- The generic row OPR2 completes in every state; it skips by the condition on the old LAC; AC is the old AC or zero under CLA, with SR ORed in under OSR; the Link is kept; the outcome is halt exactly under HLT (the model's signal, log entry 9); nothing else changes. (Derived from 42_operate.md section 3, R206 and R214, 42_operate.md section 3, R217.) -/
def Obligations.Group2Sequence : Prop :=
  ∀ (cla sma sza snl rev osr hlt : Bool) (s : State),
    let c := (sma && s.ac.getLsbD 11) || (sza && decide (s.ac = 0)) || (snl && s.link)
    ∃ t, exec (.opr2 cla sma sza snl rev osr hlt) s = .next t ∧
      t.ac = (if cla then 0 else s.ac) ||| (if osr then s.sr else 0) ∧ t.link = s.link ∧
      t = { s with
        pc := if (if rev then !c else c) then s.pc + 1 else s.pc
        lac := t.lac
        signal := if hlt then .halt else s.signal }

/-- Each completes in every state and changes LAC and MQ alone, keeping the Link: CLA clears AC; MQL moves AC into MQ; MQA ORs MQ into AC; MQA MQL exchanges them, and after CLA loads AC from MQ and clears MQ; CLA MQL clears both; CLA MQA loads AC from MQ. (Formalises R219, R220, R221, R222.) -/
def Obligations.Group3Results : Prop :=
  ∀ s : State,
    (∃ t, exec .cla3 s = .next t ∧ t = { s with lac := t.lac } ∧ t.ac = 0 ∧ t.link = s.link) ∧
    (∃ t, exec .mql s = .next t ∧ t = { s with lac := t.lac, mq := s.ac } ∧ t.ac = 0 ∧ t.link = s.link) ∧
    (∃ t, exec .mqa s = .next t ∧ t = { s with lac := t.lac } ∧ t.ac = s.ac ||| s.mq ∧ t.link = s.link) ∧
    (∃ t, exec .swp s = .next t ∧ t = { s with lac := t.lac, mq := s.ac } ∧ t.ac = s.mq ∧ t.link = s.link) ∧
    (∃ t, exec .cam s = .next t ∧ t = { s with lac := t.lac, mq := 0 } ∧ t.ac = 0 ∧ t.link = s.link) ∧
    (∃ t, exec .acl s = .next t ∧ t = { s with lac := t.lac } ∧ t.ac = s.mq ∧ t.link = s.link) ∧
    (∃ t, exec (.opr3 true true false true 0) s = .next t ∧ t = { s with lac := t.lac, mq := 0 } ∧
      t.ac = s.mq ∧ t.link = s.link)

/-- Under ignore (the default; log entry 5), or with none of the bits 0o056 set, OPR3 completes: AC, MQ and Link by the sequence of R218 on the old values, nothing else changed. Under refuse with any of those bits set it is refused by name. The empty word 0o7401 changes nothing. (Derived from 42_operate.md section 4, R218, R223 and R224, 92_eei_decisions.md D34.) -/
def Obligations.Group3Sequence : Prop :=
  ∀ (cla mqa x040 mql : Bool) (x016 : BitVec 3) (s : State),
    exec .opr3Nop s = .next s ∧
    (s.params.group3Extra = .ignore ∨ (x040 = false ∧ x016 = 0) →
      ∃ t, exec (.opr3 cla mqa x040 mql x016) s = .next t ∧ t = { s with lac := t.lac, mq := t.mq } ∧
        t.link = s.link ∧
        t.ac = (if cla || mql then 0 else s.ac) ||| (if mqa then s.mq else 0) ∧
        t.mq = if mql then (if cla then 0 else s.ac) else s.mq) ∧
    (s.params.group3Extra = .refuse → x040 = true ∨ x016 ≠ 0 →
      exec (.opr3 cla mqa x040 mql x016) s = .refused .group3Extra)

/-- 0o6000 and 0o6003 to 0o6007 complete in every state with no change at all after the fetch. (Formalises R243.) -/
def Obligations.SelectorZeroOthersIgnored : Prop :=
  ∀ s : State, exec .iot00 s = .next s ∧ exec .iot03 s = .next s ∧ exec .iot04 s = .next s ∧
    exec .iot05 s = .next s ∧ exec .iot06 s = .next s ∧ exec .iot07 s = .next s

/-- ION completes in every state and only sets ION_PENDING. IOF completes and clears IEN and ION_PENDING; that it clears the second is the spec's own decision (log entry 18). Nothing else changes. (Derived from 43_iot_and_bus.md section 1, R241 and R242, 92_eei_decisions.md D3.) -/
def Obligations.IonAndIofResults : Prop :=
  ∀ s : State, exec .ion s = .next { s with ionPending := true } ∧
    exec .iof s = .next { s with ien := false, ionPending := false }

/-- If a step ends with IEN set, IEN or ION_PENDING was set before it; if a step ends with ION_PENDING set, the step executed ION. (Derived from 10_state.md section 4, R38 and R39, 95_test_vectors.md L1.5 I-2.) -/
def Obligations.IenRisesOnlyAfterIon : Prop :=
  ∀ s t : State, step s = .next t →
    (t.ien = true → s.ien = true ∨ s.ionPending = true) ∧
    (t.ionPending = true → decode (s.memRead s.pc) = .ion)

/-- With IEN and ION_PENDING clear and no exit requested, the step of an ION leaves IEN clear and ION_PENDING set and enters nothing. With ION_PENDING set, IEN clear, the Teletype alone on the bus and its poll going well, the step of a NOP promotes and polls: with a request after the poll it saves PC in word 0 and continues at 1 with both flags clear, without one it goes on with IEN set. (Derived from 43_iot_and_bus.md section 1, R241, 70_reset_and_hazards.md section 3, R350, 92_eei_decisions.md D5.) -/
def Obligations.IonTakesEffectOneInstructionLate : Prop :=
  ∀ s : State, s.ien = false → s.tty.exitRequest = false →
    (s.ionPending = false → s.memRead s.pc = 0o6001 →
      step s = .next { s with ir := 0o6001, pc := s.pc + 1, ionPending := true, signal := .cont }) ∧
    (s.ionPending = true → s.memRead s.pc = 0o7000 → s.devices = [.teletype] → s.pollGoesWell = true →
      ∃ u t, s.poll = .next u ∧ step s = .next t ∧ t.ionPending = false ∧ t.tty.exitRequest = false ∧
        ((u.tty.ttiIntPending || u.tty.ttoIntPending) = true →
          t.pc = 1 ∧ t.ien = false ∧ t.memRead 0 = s.pc + 1 ∧ ∀ a : Word, a ≠ 0 → t.memRead a = s.memRead a) ∧
        ((u.tty.ttiIntPending || u.tty.ttoIntPending) = false →
          t.pc = s.pc + 1 ∧ t.ien = true ∧ t.mem = s.mem))

/-- For every instruction that goes to the bus (IOT-UNCLAIMED and every Teletype word), if no registered device claims its selector, it completes with the state unchanged. That nothing acts then is the spec's own decision (log entries 20 and 23). (Derived from 43_iot_and_bus.md section 2, R246, 92_eei_decisions.md D8, D13.) -/
def Obligations.UnclaimedSelectorDoesNothing : Prop :=
  ∀ (i : Instr) (sel : Selector) (s : State), busSelector i = some sel → s.deviceFor sel = none →
    exec i s = .next s

/-- For every instruction that goes to a selector another device claims: the device's next answer sets PC and LAC, masked, and nothing else; an answer with an error faults with that error and the PC it returned. The scripted answers are the model's form of the device (log entry 14). (Derived from 43_iot_and_bus.md section 2, R244 to R247, 92_eei_decisions.md D22.) -/
def Obligations.OtherDeviceAnswerIsMaskedIn : Prop :=
  ∀ (i : Instr) (sel : Selector) (s : State) (claims : List Selector) (a : IotAnswer) (rest : List IotAnswer),
    busSelector i = some sel → s.deviceFor sel = some (.other claims) → s.streams.iotAnswers = a :: rest →
    (a.err = none → ∃ t, exec i s = .next t ∧ t.pc.toNat = a.pc % 4096 ∧ t.lac.toNat = a.lac % 8192 ∧
      t = { s with pc := t.pc, lac := t.lac, streams := { s.streams with iotAnswers := rest } }) ∧
    (∀ e, a.err = some e → exec i s = .fault (.device e (BitVec.ofNat 12 a.pc)))

/-- For every selector and function, dispatching in a state with other memory, MQ, SR, IR, IEN and ION_PENDING gives the same outcome with exactly those values kept: a device changes only PC and LAC of the core. (Formalises R245.) -/
def Obligations.DeviceIotReachesOnlyPcAndLac : Prop :=
  ∀ (sel : Selector) (fn : BitVec 3) (s : State) (m : Memory) (q r i : Word) (e p : Bool),
    busDispatch sel fn { s with mem := m, mq := q, sr := r, ir := i, ien := e, ionPending := p } =
      match busDispatch sel fn s with
      | .next t => .next { t with mem := m, mq := q, sr := r, ir := i, ien := e, ionPending := p }
      | .fault f => .fault f
      | .refused x => .refused x

/-- From the tape or the console, a byte at the front is taken: TTI_BUFFER holds it, TTI_READY and TTI_INT_PENDING are set, TTI_READER_RUN is cleared; a tape byte counts in READER_POS; a keyboard 0x1C (and no tape byte) sets EXIT_REQUEST; TTO_READY raises the output request; nothing else changes. (Derived from 44_teletype.md section 2, R265 and R266, 92_eei_decisions.md D20.) -/
def Obligations.PollTakesOneByte : Prop :=
  ∀ (s : State) (b : Byte),
    let taken : Teletype := { s.tty with
      ttiBuffer := b, ttiReady := true, ttiReaderRun := false, ttiIntPending := true,
      ttoIntPending := s.tty.ttoIntPending || s.tty.ttoReady }
    (∀ rest, s.tty.ttiReaderActive = true → s.tty.ttiReaderRun = true → s.streams.tape = some (.byte b :: rest) →
      s.poll = .next { s with
        tty := { taken with readerPos := s.tty.readerPos + 1 }
        streams := { s.streams with tape := some rest } }) ∧
    (∀ rest, s.tty.ttiReaderActive = false → s.tty.ttiReady = false → s.streams.consoleIn = .byte b :: rest →
      s.poll = .next { s with
        tty := { taken with exitRequest := s.tty.exitRequest || decide (b.toNat = 28) }
        streams := { s.streams with consoleIn := rest } })

/-- Whenever the Teletype claims the selector and its poll goes well, KSF completes: with p the polled state, only PC changes from p, by one more exactly when TTI_READY is set in p; and a poll error leaves it faulting. (Formalises R271.) -/
def Obligations.KsfSkipsOnKeyboardFlag : Prop :=
  ∀ s : State, s.deviceFor 3 = some .teletype →
    (s.pollGoesWell = true → ∃ p, s.poll = .next p ∧
      exec .ksf s = .next { p with pc := if p.tty.ttiReady = true then p.pc + 1 else p.pc }) ∧
    (∀ f, s.poll = .fault f → exec .ksf s = .fault f)

/-- Whenever the Teletype claims selector 3 and its poll goes well, each word completes: with p the polled state, KCC clears AC, TTI_READY and TTI_INT_PENDING (D9) and arms the reader; KRS ORs the buffer, with bit 7 while the keyboard is the source (D12); the combinations run in the order KSF, KCC, KRS, the skip testing TTI_READY before KCC clears it; 0o6030 is the poll alone; the row TTI runs the micro-ops its bits select. Nothing else changes (log entries 21 and 24). (Derived from 44_teletype.md section 3, R270, R272, R273 and R274, 92_eei_decisions.md D9, D12.) -/
def Obligations.InputSideResults : Prop :=
  ∀ s : State, s.deviceFor 3 = some .teletype → s.pollGoesWell = true →
    ∃ p, s.poll = .next p ∧
      let pc' := if p.tty.ttiReady = true then p.pc + 1 else p.pc
      let tty' : Teletype := { p.tty with ttiReady := false, ttiIntPending := false, ttiReaderRun := true }
      let k : Lac := p.tty.ttiBuffer.zeroExtend 13 ||| (if p.tty.ttiReaderActive = true then 0 else 0o200)
      exec .tti0 s = .next p ∧
      exec .kcc s = .next { p with lac := p.lac &&& 0o10000, tty := tty' } ∧
      exec .krs s = .next { p with lac := p.lac ||| k } ∧
      exec .krb s = .next { p with lac := (p.lac &&& 0o10000) ||| k, tty := tty' } ∧
      exec .ksfKcc s = .next { p with pc := pc', lac := p.lac &&& 0o10000, tty := tty' } ∧
      exec .ksfKrs s = .next { p with pc := pc', lac := p.lac ||| k } ∧
      exec .ksfKrb s = .next { p with pc := pc', lac := (p.lac &&& 0o10000) ||| k, tty := tty' } ∧
      ∀ b1 b2 b4 : Bool, exec (.tti b1 b2 b4) s = .next { p with
        pc := if b1 then pc' else p.pc
        lac := (if b2 then p.lac &&& 0o10000 else p.lac) ||| (if b4 then k else 0)
        tty := if b2 then tty' else p.tty }

/-- Whenever the Teletype claims selector 4 and its poll goes well, both complete: with p the polled state, TSF changes PC alone, by one more exactly when TTO_READY is set in s; TCF clears the flag and the output request alone, so that the request its own poll raised is gone too. A poll error leaves either faulting. After construction TTO_READY is 0. (Formalises R277, R278.) -/
def Obligations.PrinterFlagTestAndClear : Prop :=
  State.constructed.tty.ttoReady = false ∧
  ∀ s : State, s.deviceFor 4 = some .teletype →
    (s.pollGoesWell = true → ∃ p, s.poll = .next p ∧ p.pc = s.pc ∧
      exec .tsf s = .next { p with pc := if s.tty.ttoReady = true then s.pc + 1 else s.pc } ∧
      exec .tcf s = .next { p with tty := { p.tty with ttoReady := false, ttoIntPending := false } }) ∧
    (∀ f, s.poll = .fault f → exec .tsf s = .fault f ∧ exec .tcf s = .fault f)

/-- Whenever the Teletype claims selector 4 and its poll goes well, each completes: 0o6040 is the poll alone; 0o6043 skips by the flag before clearing it; the row TTO without bit 0o4 does what its bits select. Nothing else changes. (Derived from 44_teletype.md section 4, R280 and R261.) -/
def Obligations.OutputWordsWithoutTpc : Prop :=
  ∀ s : State, s.deviceFor 4 = some .teletype → s.pollGoesWell = true →
    ∃ p, s.poll = .next p ∧
      let pc' := if p.tty.ttoReady = true then p.pc + 1 else p.pc
      let tty' : Teletype := { p.tty with ttoReady := false, ttoIntPending := false }
      exec .tto0 s = .next p ∧
      exec .tsfTcf s = .next { p with pc := pc', tty := tty' } ∧
      ∀ b1 b2 : Bool, exec (.tto b1 b2 false) s = .next { p with
        pc := if b1 then pc' else p.pc
        tty := if b2 then tty' else p.tty }

/-- Whenever the Teletype claims selector 4, its poll goes well and its sink takes the write, each completes: the current sink gets one byte, AC bits 0-7 for the punch and 0-6 for the console (D11); TTO_READY is set; TTO_INT_PENDING is cleared where TCF is among the micro-ops and otherwise as after the poll; the skip tests the flag first; the other sink, the inputs, LAC and everything else are as after the poll (log entry 24). (Derived from 44_teletype.md section 4, R276, R279 and R280, 92_eei_decisions.md D11, D29.) -/
def Obligations.OutputWordsWithTpc : Prop :=
  ∀ (i : Instr) (b1 b2 : Bool) (s : State),
    (i, b1, b2) ∈ [(.tpc, false, false), (.tls, false, true), (.tsfTpc, true, false), (.tsfTls, true, true),
      (.tto b1 b2 true, b1, b2)] →
    s.deviceFor 4 = some .teletype → s.pollGoesWell = true → s.writeGoesWell = true →
    ∃ p t b, s.poll = .next p ∧ exec i s = .next t ∧
      b.toNat = s.lac.toNat % (if s.tty.ttoPunchActive = true then 256 else 128) ∧
      t.sinkBytes = s.sinkBytes ++ [b] ∧
      (if s.tty.ttoPunchActive = true then t.streams.consoleOut = s.streams.consoleOut
        else t.streams.punch = s.streams.punch) ∧
      t = { p with
        pc := if b1 = true ∧ s.tty.ttoReady = true then s.pc + 1 else s.pc
        tty := { p.tty with ttoReady := true, ttoIntPending := if b2 then false else p.tty.ttoIntPending }
        streams := { p.streams with consoleOut := t.streams.consoleOut, punch := t.streams.punch } }

/-- In every step READER_POS does not decrease, READER_POS plus the bytes left on the tape is unchanged, and ReaderAttach restarts it at 0. (Derived from 44_teletype.md section 6, R283, 95_test_vectors.md L1.5 I-4.) -/
def Obligations.ReaderPosCountsTapeBytes : Prop :=
  (∀ s t : State, step s = .next t →
      s.tty.readerPos ≤ t.tty.readerPos ∧
      t.tty.readerPos + bytesOnTape t.streams.tape = s.tty.readerPos + bytesOnTape s.streams.tape) ∧
    (∀ (tape : List TapeItem) (s : State), (readerAttach tape s).tty.readerPos = 0)

/-- If TTO_READY is clear before a step and set after it, the step executed TPC, TLS, TSF TPC or TSF TLS. (Derived from 95_test_vectors.md L1.5 I-3, 44_teletype.md section 4, R277.) -/
def Obligations.PrinterFlagRisesOnlyByTpc : Prop :=
  ∀ s t : State, step s = .next t → s.tty.ttoReady = false → t.tty.ttoReady = true →
    hasTpc (decode (s.memRead s.pc)) = true

/-- After entry word 0 holds the old PC, every other word is unchanged, PC is 1, IEN and ION_PENDING are clear (the second by the spec's own decision, log entry 18), and every other piece of state is unchanged. (Derived from 60_exceptions.md section 3, R310 and R311, 92_eei_decisions.md D4.) -/
def Obligations.InterruptEntrySavesPcOnly : Prop :=
  ∀ s : State,
    s.enterInterrupt.memRead 0 = s.pc ∧
    (∀ a : Word, a ≠ 0 → s.enterInterrupt.memRead a = s.memRead a) ∧
    s.enterInterrupt = { s with mem := s.enterInterrupt.mem, pc := 1, ien := false, ionPending := false }

/-- If the Teletype's poll goes well, the interrupt poll over the Teletype alone gives the polled state, or interrupt entry from it when TTI_INT_PENDING or TTO_INT_PENDING is set; the Teletype's state is the polled one in both cases (level requests, log entry 21). (Derived from 44_teletype.md section 5, R281, 60_exceptions.md sections 2 and 3, R307 to R310, 92_eei_decisions.md D9, D10.) -/
def Obligations.TeletypeInterruptIsLevel : Prop :=
  ∀ s : State, s.pollGoesWell = true →
    ∃ p t, s.poll = .next p ∧ interruptPoll [.teletype] s = .next t ∧ t.tty = p.tty ∧ t.streams = p.streams ∧
      t.lac = s.lac ∧ t.mq = s.mq ∧ t.sr = s.sr ∧ t.ir = s.ir ∧
      ((p.tty.ttiIntPending || p.tty.ttoIntPending) = false → t = p) ∧
      ((p.tty.ttiIntPending || p.tty.ttoIntPending) = true →
        t.memRead 0 = s.pc ∧ t.pc = 1 ∧ t.ien = false ∧ t.ionPending = false ∧
        ∀ a : Word, a ≠ 0 → t.memRead a = s.memRead a)

/-- From every state whose word at PC is 0o7402, Run(n+1) returns Halted(n); PC is the address after the HLT, IR is 0o7402, a pending ION is promoted, and nothing else of the machine changes, whatever requests are pending. (Derived from 42_operate.md section 3, R217, 60_exceptions.md section 1, R305, 92_eei_decisions.md D6, D7.) -/
def Obligations.HltEndsRunWithBudgetLeft : Prop :=
  ∀ (s : State) (n : Nat), s.pcSet = true → s.memRead s.pc = 0o7402 →
    run (n + 1) s = .halted n { s with
      pc := s.pc + 1, ir := 0o7402, ien := s.ien || s.ionPending, ionPending := false, signal := .halt }

/-- For every device and state: if it claims selector 0 or a selector already claimed, registration is refused as REG_CONFLICT with no state; otherwise it completes, the device is last in the list, its selectors join the claimed set, and nothing else changes. (Formalises R248.) -/
def Obligations.RegistrationConflict : Prop :=
  ∀ (d : Device) (s : State),
    ((0 ∈ d.selectors ∨ ∃ sel ∈ d.selectors, sel ∈ s.claimed) → registerDevice d s = .refused .regConflict) ∧
    (¬ (0 ∈ d.selectors ∨ ∃ sel ∈ d.selectors, sel ∈ s.claimed) →
      ∃ t, registerDevice d s = .next t ∧ t = { s with devices := s.devices ++ [d] } ∧
        t.claimed = s.claimed ++ d.selectors)

/-- For at most 4096 words, the word at addr + i becomes the i-th word modulo 4096, every other word is unchanged, and so is all other state. (Derived from 70_reset_and_hazards.md section 2, R346, 92_eei_decisions.md D17.) -/
def Obligations.LoadImageFillsConsecutiveWords : Prop :=
  ∀ (addr : Word) (words : List Nat) (s : State), words.length ≤ 4096 →
    (∀ i (h : i < words.length),
      ((loadImage addr words s).memRead (addr + BitVec.ofNat 12 i)).toNat = words[i] % 4096) ∧
    (∀ a : Word, (∀ i < words.length, a ≠ addr + BitVec.ofNat 12 i) →
      (loadImage addr words s).memRead a = s.memRead a) ∧
    loadImage addr words s = { s with mem := (loadImage addr words s).mem }

/-- ReaderAttach replaces the tape and restarts READER_POS and TTI_READER_EOF, keeping source and arming; ReaderStart and ReaderStop set the source alone and arm nothing; PunchAttach, PunchStart and PunchStop likewise; ReaderStart without a tape and PunchStart without a punch are refused by name (D23). (Derived from 44_teletype.md section 6, R282, 92_eei_decisions.md D23.) -/
def Obligations.TapeAndPunchOperations : Prop :=
  ∀ (s : State) (tape : List TapeItem) (o : Sink),
    readerAttach tape s = { s with
      streams := { s.streams with tape := some tape }, tty := { s.tty with readerPos := 0, ttiReaderEof := false } } ∧
    (s.streams.tape ≠ none → readerStart s = .next { s with tty := { s.tty with ttiReaderActive := true } }) ∧
    (s.streams.tape = none → readerStart s = .refused .noTape) ∧
    readerStop s = { s with tty := { s.tty with ttiReaderActive := false } } ∧
    punchAttach o s = { s with streams := { s.streams with punch := some o } } ∧
    (s.streams.punch ≠ none → punchStart s = .next { s with tty := { s.tty with ttoPunchActive := true } }) ∧
    (s.streams.punch = none → punchStart s = .refused .noPunch) ∧
    punchStop s = { s with tty := { s.tty with ttoPunchActive := false } }

/-- For every state that meets the invariant, if the step gives a next state, that state meets it: memory stays canonical (addresses below 4096), TTI_READY and TTI_READER_RUN are never both set, the pending bits follow the ready flags, no exit request survives an iteration, a started reader or punch is attached, no selector is claimed twice. (Derived from 10_state.md section 7, R44, 10_state.md section 8, R46, 60_exceptions.md section 3, R313, 43_iot_and_bus.md section 3, R248.) -/
def Obligations.StepKeepsInvariant : Prop :=
  ∀ s t : State, s.Inv → step s = .next t → t.Inv

/-- If exec faults, the instruction goes to a bus selector some device claims. If exec refuses, it is for UNDEF_ROTATE or GROUP3_EXTRA set to refuse, or the instruction goes to a bus selector (whichever it is) while a started reader or punch is not attached. That the poll and TPC refuse by the names noTape and noPunch in such a state, which no run reaches, is the model's reading of R282 and D23 (log entry 13). The parameters are those of log entry 5. (Derived from 60_exceptions.md section 1, R300 and R303, 42_operate.md, R204 and R223, 44_teletype.md section 6, R282, 92_eei_decisions.md D23.) -/
def Obligations.FaultsAndRefusalsHaveTheirCause : Prop :=
  ∀ (i : Instr) (s : State),
    (∀ f, exec i s = .fault f → ∃ sel d, busSelector i = some sel ∧ s.deviceFor sel = some d) ∧
    (∀ r, exec i s = .refused r →
      (r = .undefRotate ∧ s.params.undefRotate = .refuse) ∨
      (r = .group3Extra ∧ s.params.group3Extra = .refuse) ∨
      ((r = .noTape ∨ r = .noPunch) ∧ ¬ s.StartedAreAttached ∧ busSelector i ≠ none))

/-- If two memories are canonical and give the same word at every address below 4096, they are equal lists. The list and its canonical form are the model's own choice (log entry 4), and so is what an unlisted word reads as (log entry 3): the spec says only that memory is 4096 words, each read by its address. (Derived from 10_state.md section 5, R41, 20_memory.md section 2, R74.) -/
def Obligations.CanonicalMemoryIsDeterminedByReads : Prop :=
  ∀ m n : Memory, m.wf → n.wf → (∀ a < 4096, m.read a = n.read a) → m = n

/-- SKP completes in every state and advances PC by one more; the empty group-2 word completes and changes nothing; HLT completes and changes nothing but the model's signal, which is halt (log entries 9 and 10). (Derived from 42_operate.md section 3, R213 and R217, 60_exceptions.md section 1, R305.) -/
def Obligations.SkpHltAndEmptyWordResults : Prop :=
  ∀ s : State, exec .skp s = .next { s with pc := s.pc + 1 } ∧ exec .opr2Nop s = .next s ∧
    exec .hlt s = .next { s with signal := .halt }

/-- With PC set by the host, Run(0) is Exhausted with the state unchanged; Halted, Exit and Error leave strictly less than the budget; if the loop of Run(m) is Exhausted at t, that of Run(m+n) is that of Run(n) from t. With PC never set every Run is refused by name (log entry 11); SetPC masks its value and allows Run. (Derived from 40_cycle_and_addressing.md section 3, R150 to R152, 70_reset_and_hazards.md section 2, R343 and R345, 92_eei_decisions.md D7.) -/
def Obligations.RunBudgetAccounting : Prop :=
  ∀ (m n k v : Nat) (s t : State) (f : Fault),
    (s.pcSet = true → run 0 s = .exhausted s) ∧
    (runLoop m s = .halted k t ∨ runLoop m s = .exit k t ∨ runLoop m s = .error k f → k < m) ∧
    (runLoop m s = .exhausted t → runLoop (m + n) s = runLoop n t) ∧
    (s.pcSet = false → run n s = .refused .pcNeverSet) ∧
    (setPC v s).pcSet = true ∧ (setPC v s).pc.toNat = v % 4096

/-- The values the spec gives for construction hold of State.constructed; State.reset is State.constructed after registering the Teletype (the model's choice of reset, log entry 6), and it meets the invariant. (Derived from 10_state.md section 8, R45, 10_state.md section 7, R43 and R44, 70_reset_and_hazards.md section 1, R340 and R341.) -/
def Obligations.ResetValuesAndInvariant : Prop :=
  let c := State.constructed
  c.ien = false ∧ c.ionPending = false ∧ c.devices = [] ∧
  c.tty.ttiReady = false ∧ c.tty.ttiReaderActive = false ∧ c.tty.ttiReaderRun = false ∧ c.tty.ttiReaderEof = false ∧
  c.tty.readerPos = 0 ∧ c.tty.ttoReady = false ∧ c.tty.ttiIntPending = false ∧ c.tty.ttoIntPending = false ∧
  c.tty.ttoPunchActive = false ∧ c.tty.exitRequest = false ∧ c.streams.tape = none ∧ c.streams.punch = none ∧
  registerDevice .teletype c = .next State.reset ∧ State.reset.Inv

/-- No word is illegal, no address faults and nothing traps: whatever word stands at PC, the step gives a next state, provided the invariant holds, UNDEF_ROTATE is noop, GROUP3_EXTRA is ignore and the streams answer no error; and the streams of that next state answer none either, under the same parameters. (Derived from 60_exceptions.md section 1, R300 and R303, 30_encoding.md section 5, R113, 40_cycle_and_addressing.md section 3, R155.) -/
def Obligations.EveryStepCompletesWithoutIoErrors : Prop :=
  ∀ s : State, s.Inv → s.params.undefRotate = .noop → s.params.group3Extra = .ignore → s.streams.clean = true →
    ∃ t, step s = .next t ∧ t.streams.clean = true ∧ t.params = s.params

/-- The poll reads exactly under the condition of R264; when it does not, it touches no stream and no input flag. No byte: only the answer is consumed. End of stream, from either source (D19): TTI_READER_EOF is set and the reader stays armed. Error: the poll faults with IO_READ. No attached tape: refused by name (log entry 13). TTO_READY raises the output request in the cases that go on. (Derived from 44_teletype.md section 2, R263, R264, R267, R268 and R269, 92_eei_decisions.md D18, D19, D21, D31.) -/
def Obligations.PollWithoutByte : Prop :=
  ∀ s : State,
    let raised : Teletype := { s.tty with ttoIntPending := s.tty.ttoIntPending || s.tty.ttoReady }
    (s.tty.ttiReaderActive = true → s.tty.ttiReaderRun = false → s.poll = .next { s with tty := raised }) ∧
    (s.tty.ttiReaderActive = false → s.tty.ttiReady = true → s.poll = .next { s with tty := raised }) ∧
    (s.tty.ttiReaderActive = true → s.tty.ttiReaderRun = true →
      (s.streams.tape = some [] → s.poll = .next { s with tty := { raised with ttiReaderEof := true } }) ∧
      (∀ rest, s.streams.tape = some (.nothing :: rest) →
        s.poll = .next { s with tty := raised, streams := { s.streams with tape := some rest } }) ∧
      (∀ e rest, s.streams.tape = some (.error e :: rest) → s.poll = .fault (.ioRead e s.pc)) ∧
      (s.streams.tape = none → s.poll = .refused .noTape)) ∧
    (s.tty.ttiReaderActive = false → s.tty.ttiReady = false →
      (s.streams.consoleIn = [] → s.poll = .next { s with tty := raised }) ∧
      (∀ rest, s.streams.consoleIn = .nothing :: rest →
        s.poll = .next { s with tty := raised, streams := { s.streams with consoleIn := rest } }) ∧
      (∀ rest, s.streams.consoleIn = .eof :: rest →
        s.poll = .next { s with
          tty := { raised with ttiReaderEof := true }, streams := { s.streams with consoleIn := rest } }) ∧
      (∀ e rest, s.streams.consoleIn = .error e :: rest → s.poll = .fault (.ioRead e s.pc)))

/-- For every instruction that gives a next state: SR, IR, the devices, the parameters and the SetPC mark are unchanged; memory is unchanged unless it is an MRI; MQ unless it has MQL; IEN unless it is IOF; ION_PENDING unless it is ION or IOF; the Teletype and the streams unless it goes to the bus; PC and LAC follow the other statements. (Derived from 20_memory.md section 2, R76, 40_cycle_and_addressing.md section 2, R144, 10_state.md sections 2 to 4, R32 to R39, 92_eei_decisions.md D28.) -/
def Obligations.InstructionsStayInTheirState : Prop :=
  ∀ (i : Instr) (s t : State), exec i s = .next t →
    t.sr = s.sr ∧ t.ir = s.ir ∧ t.devices = s.devices ∧ t.params = s.params ∧ t.pcSet = s.pcSet ∧
    (isMri i = false → t.mem = s.mem) ∧
    (hasMql i = false → t.mq = s.mq) ∧
    (i ≠ .iof → t.ien = s.ien) ∧
    (i ≠ .ion → i ≠ .iof → t.ionPending = s.ionPending) ∧
    (busSelector i = none → t.tty = s.tty ∧ t.streams = s.streams)

/-- The generic row OPR1 completes in every state; LAC is the result of the selected steps in the order of R192; nothing else changes. Under UNDEF_ROTATE = noop (the default, the source's recommendation; log entry 5) the rows OPR1-ROT014 and OPR1-ROT016 complete with the same steps and no rotate; under refuse they are refused by name. (Derived from 42_operate.md section 2, R192 and R204, 92_eei_decisions.md D16.) -/
def Obligations.Group1Sequence : Prop :=
  ∀ (cla cll cma cml iac : Bool) (rot : Rotate) (s : State),
    let ror (x : Lac) : Lac := (x >>> 1) ||| ((x &&& 1) <<< 12)
    let rol (x : Lac) : Lac := ((x <<< 1) &&& 0o17777) ||| (x >>> 12)
    let l1 := if cla then s.lac &&& 0o10000 else s.lac
    let l2 := if cll then l1 &&& 0o07777 else l1
    let l3 := if cma then l2 ^^^ 0o07777 else l2
    let l4 := if cml then l3 ^^^ 0o10000 else l3
    let l5 := if iac then l4 + 1 else l4
    let l6 := match rot with
      | .off => l5
      | .bsw => (l5 &&& 0o10000) ||| ((l5 &&& 0o77) <<< 6) ||| ((l5 >>> 6) &&& 0o77)
      | .ral => rol l5
      | .rtl => rol (rol l5)
      | .rar => ror l5
      | .rtr => ror (ror l5)
    exec (.opr1 cla cll cma cml iac rot) s = .next { s with lac := l6 } ∧
    (s.params.undefRotate = .noop →
      exec (.opr1Rot014 cla cll cma cml iac) s = .next { s with lac := l5 } ∧
      exec (.opr1Rot016 cla cll cma cml iac) s = .next { s with lac := l5 }) ∧
    (s.params.undefRotate = .refuse →
      exec (.opr1Rot014 cla cll cma cml iac) s = .refused .undefRotate ∧
      exec (.opr1Rot016 cla cll cma cml iac) s = .refused .undefRotate)

/-- Registration puts a device last in the list. If the devices before d are asked one after another and none asserts, leaving u, and d asserts, leaving v, the interrupt poll over the list enters the interrupt from v, whatever devices stand after d. (Formalises R249.) -/
def Obligations.FirstAssertingDeviceWins : Prop :=
  (∀ (d : Device) (s t : State), registerDevice d s = .next t → t.devices = s.devices ++ [d]) ∧
  ∀ (before after : List Device) (d : Device) (s u v : State),
    noneAsserts before s = some u → d.query u = .answer v true →
    interruptPoll (before ++ d :: after) s = .next v.enterInterrupt

/-- For every Teletype word: if the poll before it faults, it faults the same and runs no micro-op. If the poll goes well and the write of a word with TPC is answered by an error e, it faults with IO_WRITE e and the PC it was given, which is the address after the instruction. Every fault of a word of the Teletype is IO_READ or IO_WRITE with that PC: a failed iot performs no skip, also where the word's own TSF found TTO_READY set. There the model follows R155 and R302 and not the letter of R261's pseudocode (log entry 12). (Derived from 40_cycle_and_addressing.md section 3, R155, 44_teletype.md section 2, R269, 60_exceptions.md section 1, R301 and R302, 92_eei_decisions.md D21, D29.) -/
def Obligations.TeletypeErrorsEndTheRun : Prop :=
  (∀ (i : Instr) (sel : Selector) (s : State) (f : Fault), busSelector i = some sel →
      s.deviceFor sel = some .teletype → s.poll = .fault f → exec i s = .fault f) ∧
  (∀ (i : Instr) (s : State) (o : Sink) (e : IoError) (rest : List WriteAnswer), hasTpc i = true →
      s.deviceFor 4 = some .teletype → s.pollGoesWell = true →
      s.currentSink = some o → o.answers = .error e :: rest → exec i s = .fault (.ioWrite e s.pc)) ∧
  ∀ (i : Instr) (sel : Selector) (s : State) (f : Fault), busSelector i = some sel →
    s.deviceFor sel = some .teletype → exec i s = .fault f → ∃ e, f = .ioRead e s.pc ∨ f = .ioWrite e s.pc
end

