-- ==== Sys2Proof/Laws/State.lean ====
section
/-! SUPPORT. One lemma per field per update of State, each true by rfl: a proof about a field never unfolds an update. -/

namespace Sys2Proof.Machine

variable (s : State)

/-! ### setPc -/

@[simp] theorem setPc_pc (v : Word) : (s.setPc v).pc = v := rfl
@[simp] theorem setPc_ir (v : Word) : (s.setPc v).ir = s.ir := rfl
@[simp] theorem setPc_lac (v : Word) : (s.setPc v).lac = s.lac := rfl
@[simp] theorem setPc_mq (v : Word) : (s.setPc v).mq = s.mq := rfl
@[simp] theorem setPc_sr (v : Word) : (s.setPc v).sr = s.sr := rfl
@[simp] theorem setPc_ien (v : Word) : (s.setPc v).ien = s.ien := rfl
@[simp] theorem setPc_ionPending (v : Word) : (s.setPc v).ionPending = s.ionPending := rfl
@[simp] theorem setPc_mem (v : Word) : (s.setPc v).mem = s.mem := rfl
@[simp] theorem setPc_devices (v : Word) : (s.setPc v).devices = s.devices := rfl
@[simp] theorem setPc_tty (v : Word) : (s.setPc v).tty = s.tty := rfl
@[simp] theorem setPc_streams (v : Word) : (s.setPc v).streams = s.streams := rfl
@[simp] theorem setPc_params (v : Word) : (s.setPc v).params = s.params := rfl
@[simp] theorem setPc_signal (v : Word) : (s.setPc v).signal = s.signal := rfl
@[simp] theorem setPc_pcSet (v : Word) : (s.setPc v).pcSet = s.pcSet := rfl

/-! ### setIr -/

@[simp] theorem setIr_pc (v : Word) : (s.setIr v).pc = s.pc := rfl
@[simp] theorem setIr_ir (v : Word) : (s.setIr v).ir = v := rfl
@[simp] theorem setIr_lac (v : Word) : (s.setIr v).lac = s.lac := rfl
@[simp] theorem setIr_mq (v : Word) : (s.setIr v).mq = s.mq := rfl
@[simp] theorem setIr_sr (v : Word) : (s.setIr v).sr = s.sr := rfl
@[simp] theorem setIr_ien (v : Word) : (s.setIr v).ien = s.ien := rfl
@[simp] theorem setIr_ionPending (v : Word) : (s.setIr v).ionPending = s.ionPending := rfl
@[simp] theorem setIr_mem (v : Word) : (s.setIr v).mem = s.mem := rfl
@[simp] theorem setIr_devices (v : Word) : (s.setIr v).devices = s.devices := rfl
@[simp] theorem setIr_tty (v : Word) : (s.setIr v).tty = s.tty := rfl
@[simp] theorem setIr_streams (v : Word) : (s.setIr v).streams = s.streams := rfl
@[simp] theorem setIr_params (v : Word) : (s.setIr v).params = s.params := rfl
@[simp] theorem setIr_signal (v : Word) : (s.setIr v).signal = s.signal := rfl
@[simp] theorem setIr_pcSet (v : Word) : (s.setIr v).pcSet = s.pcSet := rfl

/-! ### setLac -/

@[simp] theorem setLac_pc (v : Lac) : (s.setLac v).pc = s.pc := rfl
@[simp] theorem setLac_ir (v : Lac) : (s.setLac v).ir = s.ir := rfl
@[simp] theorem setLac_lac (v : Lac) : (s.setLac v).lac = v := rfl
@[simp] theorem setLac_mq (v : Lac) : (s.setLac v).mq = s.mq := rfl
@[simp] theorem setLac_sr (v : Lac) : (s.setLac v).sr = s.sr := rfl
@[simp] theorem setLac_ien (v : Lac) : (s.setLac v).ien = s.ien := rfl
@[simp] theorem setLac_ionPending (v : Lac) : (s.setLac v).ionPending = s.ionPending := rfl
@[simp] theorem setLac_mem (v : Lac) : (s.setLac v).mem = s.mem := rfl
@[simp] theorem setLac_devices (v : Lac) : (s.setLac v).devices = s.devices := rfl
@[simp] theorem setLac_tty (v : Lac) : (s.setLac v).tty = s.tty := rfl
@[simp] theorem setLac_streams (v : Lac) : (s.setLac v).streams = s.streams := rfl
@[simp] theorem setLac_params (v : Lac) : (s.setLac v).params = s.params := rfl
@[simp] theorem setLac_signal (v : Lac) : (s.setLac v).signal = s.signal := rfl
@[simp] theorem setLac_pcSet (v : Lac) : (s.setLac v).pcSet = s.pcSet := rfl

/-! ### setMq -/

@[simp] theorem setMq_pc (v : Word) : (s.setMq v).pc = s.pc := rfl
@[simp] theorem setMq_ir (v : Word) : (s.setMq v).ir = s.ir := rfl
@[simp] theorem setMq_lac (v : Word) : (s.setMq v).lac = s.lac := rfl
@[simp] theorem setMq_mq (v : Word) : (s.setMq v).mq = v := rfl
@[simp] theorem setMq_sr (v : Word) : (s.setMq v).sr = s.sr := rfl
@[simp] theorem setMq_ien (v : Word) : (s.setMq v).ien = s.ien := rfl
@[simp] theorem setMq_ionPending (v : Word) : (s.setMq v).ionPending = s.ionPending := rfl
@[simp] theorem setMq_mem (v : Word) : (s.setMq v).mem = s.mem := rfl
@[simp] theorem setMq_devices (v : Word) : (s.setMq v).devices = s.devices := rfl
@[simp] theorem setMq_tty (v : Word) : (s.setMq v).tty = s.tty := rfl
@[simp] theorem setMq_streams (v : Word) : (s.setMq v).streams = s.streams := rfl
@[simp] theorem setMq_params (v : Word) : (s.setMq v).params = s.params := rfl
@[simp] theorem setMq_signal (v : Word) : (s.setMq v).signal = s.signal := rfl
@[simp] theorem setMq_pcSet (v : Word) : (s.setMq v).pcSet = s.pcSet := rfl

/-! ### setSr -/

@[simp] theorem setSr_pc (v : Word) : (s.setSr v).pc = s.pc := rfl
@[simp] theorem setSr_ir (v : Word) : (s.setSr v).ir = s.ir := rfl
@[simp] theorem setSr_lac (v : Word) : (s.setSr v).lac = s.lac := rfl
@[simp] theorem setSr_mq (v : Word) : (s.setSr v).mq = s.mq := rfl
@[simp] theorem setSr_sr (v : Word) : (s.setSr v).sr = v := rfl
@[simp] theorem setSr_ien (v : Word) : (s.setSr v).ien = s.ien := rfl
@[simp] theorem setSr_ionPending (v : Word) : (s.setSr v).ionPending = s.ionPending := rfl
@[simp] theorem setSr_mem (v : Word) : (s.setSr v).mem = s.mem := rfl
@[simp] theorem setSr_devices (v : Word) : (s.setSr v).devices = s.devices := rfl
@[simp] theorem setSr_tty (v : Word) : (s.setSr v).tty = s.tty := rfl
@[simp] theorem setSr_streams (v : Word) : (s.setSr v).streams = s.streams := rfl
@[simp] theorem setSr_params (v : Word) : (s.setSr v).params = s.params := rfl
@[simp] theorem setSr_signal (v : Word) : (s.setSr v).signal = s.signal := rfl
@[simp] theorem setSr_pcSet (v : Word) : (s.setSr v).pcSet = s.pcSet := rfl

/-! ### setIen -/

@[simp] theorem setIen_pc (b : Bool) : (s.setIen b).pc = s.pc := rfl
@[simp] theorem setIen_ir (b : Bool) : (s.setIen b).ir = s.ir := rfl
@[simp] theorem setIen_lac (b : Bool) : (s.setIen b).lac = s.lac := rfl
@[simp] theorem setIen_mq (b : Bool) : (s.setIen b).mq = s.mq := rfl
@[simp] theorem setIen_sr (b : Bool) : (s.setIen b).sr = s.sr := rfl
@[simp] theorem setIen_ien (b : Bool) : (s.setIen b).ien = b := rfl
@[simp] theorem setIen_ionPending (b : Bool) : (s.setIen b).ionPending = s.ionPending := rfl
@[simp] theorem setIen_mem (b : Bool) : (s.setIen b).mem = s.mem := rfl
@[simp] theorem setIen_devices (b : Bool) : (s.setIen b).devices = s.devices := rfl
@[simp] theorem setIen_tty (b : Bool) : (s.setIen b).tty = s.tty := rfl
@[simp] theorem setIen_streams (b : Bool) : (s.setIen b).streams = s.streams := rfl
@[simp] theorem setIen_params (b : Bool) : (s.setIen b).params = s.params := rfl
@[simp] theorem setIen_signal (b : Bool) : (s.setIen b).signal = s.signal := rfl
@[simp] theorem setIen_pcSet (b : Bool) : (s.setIen b).pcSet = s.pcSet := rfl

/-! ### setIonPending -/

@[simp] theorem setIonPending_pc (b : Bool) : (s.setIonPending b).pc = s.pc := rfl
@[simp] theorem setIonPending_ir (b : Bool) : (s.setIonPending b).ir = s.ir := rfl
@[simp] theorem setIonPending_lac (b : Bool) : (s.setIonPending b).lac = s.lac := rfl
@[simp] theorem setIonPending_mq (b : Bool) : (s.setIonPending b).mq = s.mq := rfl
@[simp] theorem setIonPending_sr (b : Bool) : (s.setIonPending b).sr = s.sr := rfl
@[simp] theorem setIonPending_ien (b : Bool) : (s.setIonPending b).ien = s.ien := rfl
@[simp] theorem setIonPending_ionPending (b : Bool) : (s.setIonPending b).ionPending = b := rfl
@[simp] theorem setIonPending_mem (b : Bool) : (s.setIonPending b).mem = s.mem := rfl
@[simp] theorem setIonPending_devices (b : Bool) : (s.setIonPending b).devices = s.devices := rfl
@[simp] theorem setIonPending_tty (b : Bool) : (s.setIonPending b).tty = s.tty := rfl
@[simp] theorem setIonPending_streams (b : Bool) : (s.setIonPending b).streams = s.streams := rfl
@[simp] theorem setIonPending_params (b : Bool) : (s.setIonPending b).params = s.params := rfl
@[simp] theorem setIonPending_signal (b : Bool) : (s.setIonPending b).signal = s.signal := rfl
@[simp] theorem setIonPending_pcSet (b : Bool) : (s.setIonPending b).pcSet = s.pcSet := rfl

/-! ### setTty -/

@[simp] theorem setTty_pc (t : Teletype) : (s.setTty t).pc = s.pc := rfl
@[simp] theorem setTty_ir (t : Teletype) : (s.setTty t).ir = s.ir := rfl
@[simp] theorem setTty_lac (t : Teletype) : (s.setTty t).lac = s.lac := rfl
@[simp] theorem setTty_mq (t : Teletype) : (s.setTty t).mq = s.mq := rfl
@[simp] theorem setTty_sr (t : Teletype) : (s.setTty t).sr = s.sr := rfl
@[simp] theorem setTty_ien (t : Teletype) : (s.setTty t).ien = s.ien := rfl
@[simp] theorem setTty_ionPending (t : Teletype) : (s.setTty t).ionPending = s.ionPending := rfl
@[simp] theorem setTty_mem (t : Teletype) : (s.setTty t).mem = s.mem := rfl
@[simp] theorem setTty_devices (t : Teletype) : (s.setTty t).devices = s.devices := rfl
@[simp] theorem setTty_tty (t : Teletype) : (s.setTty t).tty = t := rfl
@[simp] theorem setTty_streams (t : Teletype) : (s.setTty t).streams = s.streams := rfl
@[simp] theorem setTty_params (t : Teletype) : (s.setTty t).params = s.params := rfl
@[simp] theorem setTty_signal (t : Teletype) : (s.setTty t).signal = s.signal := rfl
@[simp] theorem setTty_pcSet (t : Teletype) : (s.setTty t).pcSet = s.pcSet := rfl

/-! ### setStreams -/

@[simp] theorem setStreams_pc (h : Streams) : (s.setStreams h).pc = s.pc := rfl
@[simp] theorem setStreams_ir (h : Streams) : (s.setStreams h).ir = s.ir := rfl
@[simp] theorem setStreams_lac (h : Streams) : (s.setStreams h).lac = s.lac := rfl
@[simp] theorem setStreams_mq (h : Streams) : (s.setStreams h).mq = s.mq := rfl
@[simp] theorem setStreams_sr (h : Streams) : (s.setStreams h).sr = s.sr := rfl
@[simp] theorem setStreams_ien (h : Streams) : (s.setStreams h).ien = s.ien := rfl
@[simp] theorem setStreams_ionPending (h : Streams) : (s.setStreams h).ionPending = s.ionPending := rfl
@[simp] theorem setStreams_mem (h : Streams) : (s.setStreams h).mem = s.mem := rfl
@[simp] theorem setStreams_devices (h : Streams) : (s.setStreams h).devices = s.devices := rfl
@[simp] theorem setStreams_tty (h : Streams) : (s.setStreams h).tty = s.tty := rfl
@[simp] theorem setStreams_streams (h : Streams) : (s.setStreams h).streams = h := rfl
@[simp] theorem setStreams_params (h : Streams) : (s.setStreams h).params = s.params := rfl
@[simp] theorem setStreams_signal (h : Streams) : (s.setStreams h).signal = s.signal := rfl
@[simp] theorem setStreams_pcSet (h : Streams) : (s.setStreams h).pcSet = s.pcSet := rfl

/-! ### setDevices -/

@[simp] theorem setDevices_pc (ds : List Device) : (s.setDevices ds).pc = s.pc := rfl
@[simp] theorem setDevices_ir (ds : List Device) : (s.setDevices ds).ir = s.ir := rfl
@[simp] theorem setDevices_lac (ds : List Device) : (s.setDevices ds).lac = s.lac := rfl
@[simp] theorem setDevices_mq (ds : List Device) : (s.setDevices ds).mq = s.mq := rfl
@[simp] theorem setDevices_sr (ds : List Device) : (s.setDevices ds).sr = s.sr := rfl
@[simp] theorem setDevices_ien (ds : List Device) : (s.setDevices ds).ien = s.ien := rfl
@[simp] theorem setDevices_ionPending (ds : List Device) : (s.setDevices ds).ionPending = s.ionPending := rfl
@[simp] theorem setDevices_mem (ds : List Device) : (s.setDevices ds).mem = s.mem := rfl
@[simp] theorem setDevices_devices (ds : List Device) : (s.setDevices ds).devices = ds := rfl
@[simp] theorem setDevices_tty (ds : List Device) : (s.setDevices ds).tty = s.tty := rfl
@[simp] theorem setDevices_streams (ds : List Device) : (s.setDevices ds).streams = s.streams := rfl
@[simp] theorem setDevices_params (ds : List Device) : (s.setDevices ds).params = s.params := rfl
@[simp] theorem setDevices_signal (ds : List Device) : (s.setDevices ds).signal = s.signal := rfl
@[simp] theorem setDevices_pcSet (ds : List Device) : (s.setDevices ds).pcSet = s.pcSet := rfl

/-! ### setSignal -/

@[simp] theorem setSignal_pc (g : Signal) : (s.setSignal g).pc = s.pc := rfl
@[simp] theorem setSignal_ir (g : Signal) : (s.setSignal g).ir = s.ir := rfl
@[simp] theorem setSignal_lac (g : Signal) : (s.setSignal g).lac = s.lac := rfl
@[simp] theorem setSignal_mq (g : Signal) : (s.setSignal g).mq = s.mq := rfl
@[simp] theorem setSignal_sr (g : Signal) : (s.setSignal g).sr = s.sr := rfl
@[simp] theorem setSignal_ien (g : Signal) : (s.setSignal g).ien = s.ien := rfl
@[simp] theorem setSignal_ionPending (g : Signal) : (s.setSignal g).ionPending = s.ionPending := rfl
@[simp] theorem setSignal_mem (g : Signal) : (s.setSignal g).mem = s.mem := rfl
@[simp] theorem setSignal_devices (g : Signal) : (s.setSignal g).devices = s.devices := rfl
@[simp] theorem setSignal_tty (g : Signal) : (s.setSignal g).tty = s.tty := rfl
@[simp] theorem setSignal_streams (g : Signal) : (s.setSignal g).streams = s.streams := rfl
@[simp] theorem setSignal_params (g : Signal) : (s.setSignal g).params = s.params := rfl
@[simp] theorem setSignal_signal (g : Signal) : (s.setSignal g).signal = g := rfl
@[simp] theorem setSignal_pcSet (g : Signal) : (s.setSignal g).pcSet = s.pcSet := rfl

/-! ### memWrite -/

@[simp] theorem memWrite_pc (a v : Word) : (s.memWrite a v).pc = s.pc := rfl
@[simp] theorem memWrite_ir (a v : Word) : (s.memWrite a v).ir = s.ir := rfl
@[simp] theorem memWrite_lac (a v : Word) : (s.memWrite a v).lac = s.lac := rfl
@[simp] theorem memWrite_mq (a v : Word) : (s.memWrite a v).mq = s.mq := rfl
@[simp] theorem memWrite_sr (a v : Word) : (s.memWrite a v).sr = s.sr := rfl
@[simp] theorem memWrite_ien (a v : Word) : (s.memWrite a v).ien = s.ien := rfl
@[simp] theorem memWrite_ionPending (a v : Word) : (s.memWrite a v).ionPending = s.ionPending := rfl
@[simp] theorem memWrite_mem (a v : Word) : (s.memWrite a v).mem = s.mem.write a.toNat v := rfl
@[simp] theorem memWrite_devices (a v : Word) : (s.memWrite a v).devices = s.devices := rfl
@[simp] theorem memWrite_tty (a v : Word) : (s.memWrite a v).tty = s.tty := rfl
@[simp] theorem memWrite_streams (a v : Word) : (s.memWrite a v).streams = s.streams := rfl
@[simp] theorem memWrite_params (a v : Word) : (s.memWrite a v).params = s.params := rfl
@[simp] theorem memWrite_signal (a v : Word) : (s.memWrite a v).signal = s.signal := rfl
@[simp] theorem memWrite_pcSet (a v : Word) : (s.memWrite a v).pcSet = s.pcSet := rfl

/-! ### skip and skipIf -/

@[simp] theorem skip_pc : s.skip.pc = s.pc + 1 := rfl
@[simp] theorem skip_ir : s.skip.ir = s.ir := rfl
@[simp] theorem skip_lac : s.skip.lac = s.lac := rfl
@[simp] theorem skip_mq : s.skip.mq = s.mq := rfl
@[simp] theorem skip_sr : s.skip.sr = s.sr := rfl
@[simp] theorem skip_ien : s.skip.ien = s.ien := rfl
@[simp] theorem skip_ionPending : s.skip.ionPending = s.ionPending := rfl
@[simp] theorem skip_mem : s.skip.mem = s.mem := rfl
@[simp] theorem skip_devices : s.skip.devices = s.devices := rfl
@[simp] theorem skip_tty : s.skip.tty = s.tty := rfl
@[simp] theorem skip_streams : s.skip.streams = s.streams := rfl
@[simp] theorem skip_params : s.skip.params = s.params := rfl
@[simp] theorem skip_signal : s.skip.signal = s.signal := rfl
@[simp] theorem skip_pcSet : s.skip.pcSet = s.pcSet := rfl

@[simp] theorem skipIf_pc (c : Bool) : (s.skipIf c).pc = if c then s.pc + 1 else s.pc := by cases c <;> rfl
@[simp] theorem skipIf_ir (c : Bool) : (s.skipIf c).ir = s.ir := by cases c <;> rfl
@[simp] theorem skipIf_lac (c : Bool) : (s.skipIf c).lac = s.lac := by cases c <;> rfl
@[simp] theorem skipIf_mq (c : Bool) : (s.skipIf c).mq = s.mq := by cases c <;> rfl
@[simp] theorem skipIf_sr (c : Bool) : (s.skipIf c).sr = s.sr := by cases c <;> rfl
@[simp] theorem skipIf_ien (c : Bool) : (s.skipIf c).ien = s.ien := by cases c <;> rfl
@[simp] theorem skipIf_ionPending (c : Bool) : (s.skipIf c).ionPending = s.ionPending := by cases c <;> rfl
@[simp] theorem skipIf_mem (c : Bool) : (s.skipIf c).mem = s.mem := by cases c <;> rfl
@[simp] theorem skipIf_devices (c : Bool) : (s.skipIf c).devices = s.devices := by cases c <;> rfl
@[simp] theorem skipIf_tty (c : Bool) : (s.skipIf c).tty = s.tty := by cases c <;> rfl
@[simp] theorem skipIf_streams (c : Bool) : (s.skipIf c).streams = s.streams := by cases c <;> rfl
@[simp] theorem skipIf_params (c : Bool) : (s.skipIf c).params = s.params := by cases c <;> rfl
@[simp] theorem skipIf_signal (c : Bool) : (s.skipIf c).signal = s.signal := by cases c <;> rfl
@[simp] theorem skipIf_pcSet (c : Bool) : (s.skipIf c).pcSet = s.pcSet := by cases c <;> rfl

/-! ### fetch -/

@[simp] theorem fetch_pc : s.fetch.pc = s.pc + 1 := rfl
@[simp] theorem fetch_ir : s.fetch.ir = s.memRead s.pc := rfl
@[simp] theorem fetch_lac : s.fetch.lac = s.lac := rfl
@[simp] theorem fetch_mq : s.fetch.mq = s.mq := rfl
@[simp] theorem fetch_sr : s.fetch.sr = s.sr := rfl
@[simp] theorem fetch_ien : s.fetch.ien = s.ien := rfl
@[simp] theorem fetch_ionPending : s.fetch.ionPending = s.ionPending := rfl
@[simp] theorem fetch_mem : s.fetch.mem = s.mem := rfl
@[simp] theorem fetch_devices : s.fetch.devices = s.devices := rfl
@[simp] theorem fetch_tty : s.fetch.tty = s.tty := rfl
@[simp] theorem fetch_streams : s.fetch.streams = s.streams := rfl
@[simp] theorem fetch_params : s.fetch.params = s.params := rfl
@[simp] theorem fetch_signal : s.fetch.signal = .cont := rfl
@[simp] theorem fetch_pcSet : s.fetch.pcSet = s.pcSet := rfl

/-! ### enterInterrupt -/

@[simp] theorem enterInterrupt_pc : s.enterInterrupt.pc = 1 := rfl
@[simp] theorem enterInterrupt_ir : s.enterInterrupt.ir = s.ir := rfl
@[simp] theorem enterInterrupt_lac : s.enterInterrupt.lac = s.lac := rfl
@[simp] theorem enterInterrupt_mq : s.enterInterrupt.mq = s.mq := rfl
@[simp] theorem enterInterrupt_sr : s.enterInterrupt.sr = s.sr := rfl
@[simp] theorem enterInterrupt_ien : s.enterInterrupt.ien = false := rfl
@[simp] theorem enterInterrupt_ionPending : s.enterInterrupt.ionPending = false := rfl
@[simp] theorem enterInterrupt_mem : s.enterInterrupt.mem = s.mem.write 0 s.pc := rfl
@[simp] theorem enterInterrupt_devices : s.enterInterrupt.devices = s.devices := rfl
@[simp] theorem enterInterrupt_tty : s.enterInterrupt.tty = s.tty := rfl
@[simp] theorem enterInterrupt_streams : s.enterInterrupt.streams = s.streams := rfl
@[simp] theorem enterInterrupt_params : s.enterInterrupt.params = s.params := rfl
@[simp] theorem enterInterrupt_signal : s.enterInterrupt.signal = s.signal := rfl
@[simp] theorem enterInterrupt_pcSet : s.enterInterrupt.pcSet = s.pcSet := rfl

/-! ### promote -/

@[simp] theorem promote_pc (p : Bool) : (s.promote p).pc = s.pc := by unfold State.promote; split <;> rfl
@[simp] theorem promote_ir (p : Bool) : (s.promote p).ir = s.ir := by unfold State.promote; split <;> rfl
@[simp] theorem promote_lac (p : Bool) : (s.promote p).lac = s.lac := by unfold State.promote; split <;> rfl
@[simp] theorem promote_mq (p : Bool) : (s.promote p).mq = s.mq := by unfold State.promote; split <;> rfl
@[simp] theorem promote_sr (p : Bool) : (s.promote p).sr = s.sr := by unfold State.promote; split <;> rfl
@[simp] theorem promote_ien (p : Bool) : (s.promote p).ien = (s.ien || (p && s.ionPending)) := by
  unfold State.promote; split <;> simp_all
@[simp] theorem promote_ionPending (p : Bool) : (s.promote p).ionPending = (!p && s.ionPending) := by
  unfold State.promote; cases p <;> cases h : s.ionPending <;> simp [h]
@[simp] theorem promote_mem (p : Bool) : (s.promote p).mem = s.mem := by unfold State.promote; split <;> rfl
@[simp] theorem promote_devices (p : Bool) : (s.promote p).devices = s.devices := by unfold State.promote; split <;> rfl
@[simp] theorem promote_tty (p : Bool) : (s.promote p).tty = s.tty := by unfold State.promote; split <;> rfl
@[simp] theorem promote_streams (p : Bool) : (s.promote p).streams = s.streams := by unfold State.promote; split <;> rfl
@[simp] theorem promote_params (p : Bool) : (s.promote p).params = s.params := by unfold State.promote; split <;> rfl
@[simp] theorem promote_signal (p : Bool) : (s.promote p).signal = s.signal := by unfold State.promote; split <;> rfl
@[simp] theorem promote_pcSet (p : Bool) : (s.promote p).pcSet = s.pcSet := by unfold State.promote; split <;> rfl

/-! ### takeExit -/

@[simp] theorem takeExit_pc : s.takeExit.pc = s.pc := by unfold State.takeExit; split <;> rfl
@[simp] theorem takeExit_ir : s.takeExit.ir = s.ir := by unfold State.takeExit; split <;> rfl
@[simp] theorem takeExit_lac : s.takeExit.lac = s.lac := by unfold State.takeExit; split <;> rfl
@[simp] theorem takeExit_mq : s.takeExit.mq = s.mq := by unfold State.takeExit; split <;> rfl
@[simp] theorem takeExit_sr : s.takeExit.sr = s.sr := by unfold State.takeExit; split <;> rfl
@[simp] theorem takeExit_ien : s.takeExit.ien = s.ien := by unfold State.takeExit; split <;> rfl
@[simp] theorem takeExit_ionPending : s.takeExit.ionPending = s.ionPending := by unfold State.takeExit; split <;> rfl
@[simp] theorem takeExit_mem : s.takeExit.mem = s.mem := by unfold State.takeExit; split <;> rfl
@[simp] theorem takeExit_devices : s.takeExit.devices = s.devices := by unfold State.takeExit; split <;> rfl
@[simp] theorem takeExit_tty : s.takeExit.tty = { s.tty with exitRequest := false } := by
  unfold State.takeExit; split
  · rfl
  · rename_i h; cases ht : s.tty; simp_all
@[simp] theorem takeExit_streams : s.takeExit.streams = s.streams := by unfold State.takeExit; split <;> rfl
@[simp] theorem takeExit_params : s.takeExit.params = s.params := by unfold State.takeExit; split <;> rfl
@[simp] theorem takeExit_signal : s.takeExit.signal = if s.tty.exitRequest then .exit else s.signal := by
  unfold State.takeExit; split <;> rfl
@[simp] theorem takeExit_pcSet : s.takeExit.pcSet = s.pcSet := by unfold State.takeExit; split <;> rfl

end Sys2Proof.Machine
end

