-- ==== Sys2Proof/Laws/Memory.lean ====
section
/-! SUPPORT. The laws of memory: a read after a write, and that every memory operation keeps the canonical form. -/

namespace Sys2Proof.Machine

@[simp] theorem read_nil (a : Nat) : Memory.read [] a = unlistedWord := rfl

theorem read_cons (c : Cell) (m : Memory) (a : Nat) :
    Memory.read (c :: m) a = if c.1 = a then c.2 else Memory.read m a := rfl

/-- An address no cell names reads as the unlisted word. -/
theorem read_of_notMem {m : Memory} {a : Nat} (h : ∀ c ∈ m, c.1 ≠ a) : m.read a = unlistedWord := by
  induction m with
  | nil => rfl
  | cons c m ih =>
    rw [read_cons, if_neg (h c (by simp))]
    exact ih fun d hd => h d (by simp [hd])

theorem mem_without {m : Memory} {a : Nat} {c : Cell} : c ∈ m.without a ↔ c ∈ m ∧ c.1 ≠ a := by
  simp [Memory.without]

@[simp] theorem read_without_same (m : Memory) (a : Nat) : (m.without a).read a = unlistedWord :=
  read_of_notMem fun _ hc => (mem_without.1 hc).2

theorem read_without_other (m : Memory) {a b : Nat} (h : b ≠ a) : (m.without a).read b = m.read b := by
  induction m with
  | nil => rfl
  | cons c m ih =>
    by_cases hc : c.1 = a
    · have : Memory.without (c :: m) a = Memory.without m a := by simp [Memory.without, hc]
      rw [this, ih, read_cons, if_neg (by omega)]
    · have : Memory.without (c :: m) a = c :: Memory.without m a := by simp [Memory.without, hc]
      rw [this, read_cons, read_cons, ih]

theorem mem_place {m : Memory} {c d : Cell} : d ∈ m.place c ↔ d = c ∨ d ∈ m := by
  induction m with
  | nil => simp [Memory.place]
  | cons e m ih =>
    unfold Memory.place
    split
    · simp
    · simp only [List.mem_cons, ih]; tauto

theorem read_place_same {m : Memory} {a : Nat} (v : Word) (h : ∀ c ∈ m, c.1 ≠ a) : (m.place (a, v)).read a = v := by
  induction m with
  | nil => simp [Memory.place, read_cons]
  | cons e m ih =>
    unfold Memory.place
    split
    · simp [read_cons]
    · rw [read_cons, if_neg (h e (by simp))]
      exact ih fun c hc => h c (by simp [hc])

theorem read_place_other (m : Memory) {a b : Nat} (v : Word) (h : b ≠ a) : (m.place (a, v)).read b = m.read b := by
  induction m with
  | nil => simp [Memory.place, read_cons, h.symm]
  | cons e m ih =>
    unfold Memory.place
    split
    · rw [read_cons, if_neg (by simpa using h.symm)]
    · rw [read_cons, read_cons, ih]

/-- A read after a write to the same address gives the value written (R74, R75). -/
@[simp] theorem read_write_same (m : Memory) (a : Nat) (v : Word) : (m.write a v).read a = v := by
  unfold Memory.write
  split
  · rename_i h; simp [h]
  · exact read_place_same v fun _ hc => (mem_without.1 hc).2

/-- A write leaves every other address as it was (R75). -/
theorem read_write_other (m : Memory) {a b : Nat} (v : Word) (h : b ≠ a) : (m.write a v).read b = m.read b := by
  unfold Memory.write
  split
  · exact read_without_other m h
  · rw [read_place_other _ v h, read_without_other m h]

@[simp] theorem memRead_memWrite_same (s : State) (a v : Word) : (s.memWrite a v).memRead a = v := by
  simp [State.memRead]

theorem memRead_memWrite_other (s : State) {a b : Word} (v : Word) (h : b ≠ a) :
    (s.memWrite a v).memRead b = s.memRead b := by
  simp only [State.memRead, memWrite_mem]
  exact read_write_other _ v fun e => h (BitVec.eq_of_toNat_eq e)

/-! ## The canonical form -/

theorem wf_nil : Memory.wf [] := ⟨List.Pairwise.nil, fun _ h => nomatch h⟩

theorem without_wf {m : Memory} (h : m.wf) (a : Nat) : (m.without a).wf :=
  ⟨h.1.filter _, fun c hc => h.2 c (mem_without.1 hc).1⟩

theorem place_pairwise {m : Memory} {c : Cell} (h : m.Pairwise (fun d e => d.1 < e.1)) (hc : ∀ d ∈ m, d.1 ≠ c.1) :
    (m.place c).Pairwise (fun d e => d.1 < e.1) := by
  induction m with
  | nil => simp [Memory.place]
  | cons e m ih =>
    obtain ⟨he, hm⟩ := List.pairwise_cons.1 h
    unfold Memory.place
    split
    · rename_i hlt
      refine List.pairwise_cons.2 ⟨fun d hd => ?_, h⟩
      rcases List.mem_cons.1 hd with rfl | hd
      · exact hlt
      · exact hlt.trans (he d hd)
    · rename_i hlt
      refine List.pairwise_cons.2 ⟨fun d hd => ?_, ih hm fun d hd => hc d (by simp [hd])⟩
      rcases mem_place.1 hd with rfl | hd
      · have := hc e (by simp); omega
      · exact he d hd

/-- A write to an address of the machine keeps the canonical form. -/
theorem write_wf {m : Memory} (h : m.wf) {a : Nat} (ha : a < 4096) (v : Word) : (m.write a v).wf := by
  unfold Memory.write
  split
  · exact without_wf h a
  · rename_i hv
    have he := without_wf h a
    refine ⟨place_pairwise he.1 fun d hd => (mem_without.1 hd).2, fun c hc => ?_⟩
    rcases mem_place.1 hc with rfl | hc
    · exact ⟨ha, hv⟩
    · exact he.2 c hc

theorem memWrite_wf {s : State} (h : s.mem.wf) (a v : Word) : (s.memWrite a v).mem.wf :=
  write_wf h a.isLt v

theorem enterInterrupt_wf {s : State} (h : s.mem.wf) : s.enterInterrupt.mem.wf := write_wf h (by decide) s.pc

theorem constructed_wf : State.constructed.mem.wf := wf_nil

theorem reset_wf : State.reset.mem.wf := wf_nil

end Sys2Proof.Machine
end

