-- ==== Sys2Proof/Laws/PerInstr.lean ====
section
/-! SUPPORT. Statements for every instruction, one lemma per constructor. Family TableRow: an instruction's word agrees with its row of spec/opcode_table.json on every bit the row fixes (spec/30_encoding.md R117). -/

namespace Sys2Proof.Laws.TableRow

open Sys2Proof

/-- The word of `i` matches the row `i` stands for. -/
def Statement (i : Instr) : Prop := encode i &&& rowMask i = rowMatch i

/-- A memory-reference word matches its opcode, whatever its fields (R102). -/
theorem mri_row (base : Word) (h : base &&& 0o7000 = base) (ind page : Bool) (offset : BitVec 7) :
    encodeMri base ind page offset &&& 0o7000 = base := by
  have ho : offset.zeroExtend 12 &&& (0o7000 : Word) = 0 := by revert offset; decide
  have hi : bit ind 0o400 &&& (0o7000 : Word) = 0 := by cases ind <;> rfl
  have hp : bit page 0o200 &&& (0o7000 : Word) = 0 := by cases page <;> rfl
  have dist (x y m : Word) : (x ||| y) &&& m = (x &&& m) ||| (y &&& m) := by
    apply BitVec.eq_of_getLsbD_eq; intro i hi; simp [Bool.and_or_distrib_right]
  simp only [encodeMri, dist, ho, hi, hp, h]
  simp

theorem and (ind page : Bool) (offset : BitVec 7) : Statement (.and ind page offset) := mri_row 0o0000 rfl ind page offset
theorem tad (ind page : Bool) (offset : BitVec 7) : Statement (.tad ind page offset) := mri_row 0o1000 rfl ind page offset
theorem isz (ind page : Bool) (offset : BitVec 7) : Statement (.isz ind page offset) := mri_row 0o2000 rfl ind page offset
theorem dca (ind page : Bool) (offset : BitVec 7) : Statement (.dca ind page offset) := mri_row 0o3000 rfl ind page offset
theorem jms (ind page : Bool) (offset : BitVec 7) : Statement (.jms ind page offset) := mri_row 0o4000 rfl ind page offset
theorem jmp (ind page : Bool) (offset : BitVec 7) : Statement (.jmp ind page offset) := mri_row 0o5000 rfl ind page offset
theorem ion : Statement .ion := rfl
theorem iof : Statement .iof := rfl
theorem iot00 : Statement .iot00 := rfl
theorem iot03 : Statement .iot03 := rfl
theorem iot04 : Statement .iot04 := rfl
theorem iot05 : Statement .iot05 := rfl
theorem iot06 : Statement .iot06 := rfl
theorem iot07 : Statement .iot07 := rfl
theorem ksf : Statement .ksf := rfl
theorem kcc : Statement .kcc := rfl
theorem krs : Statement .krs := rfl
theorem krb : Statement .krb := rfl
theorem tti0 : Statement .tti0 := rfl
theorem ksfKcc : Statement .ksfKcc := rfl
theorem ksfKrs : Statement .ksfKrs := rfl
theorem ksfKrb : Statement .ksfKrb := rfl
theorem tsf : Statement .tsf := rfl
theorem tcf : Statement .tcf := rfl
theorem tpc : Statement .tpc := rfl
theorem tls : Statement .tls := rfl
theorem tto0 : Statement .tto0 := rfl
theorem tsfTcf : Statement .tsfTcf := rfl
theorem tsfTpc : Statement .tsfTpc := rfl
theorem tsfTls : Statement .tsfTls := rfl
theorem tti (b1 b2 b4 : Bool) : Statement (.tti b1 b2 b4) := by revert b1 b2 b4; unfold Statement; decide
theorem tto (b1 b2 b4 : Bool) : Statement (.tto b1 b2 b4) := by revert b1 b2 b4; unfold Statement; decide
theorem iotUnclaimed (selector : Selector) (fn : BitVec 3) : Statement (.iotUnclaimed selector fn) := by revert selector fn; unfold Statement; decide
theorem cla1 : Statement .cla1 := rfl
theorem cll : Statement .cll := rfl
theorem cma : Statement .cma := rfl
theorem cml : Statement .cml := rfl
theorem iac : Statement .iac := rfl
theorem rar : Statement .rar := rfl
theorem ral : Statement .ral := rfl
theorem rtr : Statement .rtr := rfl
theorem rtl : Statement .rtl := rfl
theorem bsw : Statement .bsw := rfl
theorem nop : Statement .nop := rfl
theorem opr1Rot014 (cla cll cma cml iac : Bool) : Statement (.opr1Rot014 cla cll cma cml iac) := by revert cla cll cma cml iac; unfold Statement; decide
theorem opr1Rot016 (cla cll cma cml iac : Bool) : Statement (.opr1Rot016 cla cll cma cml iac) := by revert cla cll cma cml iac; unfold Statement; decide
theorem cia : Statement .cia := rfl
theorem stl : Statement .stl := rfl
theorem sta : Statement .sta := rfl
theorem glk : Statement .glk := rfl
theorem claCll : Statement .claCll := rfl
theorem opr1 (cla cll cma cml iac : Bool) (rot : Rotate) : Statement (.opr1 cla cll cma cml iac rot) := by revert cla cll cma cml iac; cases rot <;> (unfold Statement; decide)
theorem sma : Statement .sma := rfl
theorem sza : Statement .sza := rfl
theorem snl : Statement .snl := rfl
theorem spa : Statement .spa := rfl
theorem sna : Statement .sna := rfl
theorem szl : Statement .szl := rfl
theorem skp : Statement .skp := rfl
theorem cla2 : Statement .cla2 := rfl
theorem osr : Statement .osr := rfl
theorem hlt : Statement .hlt := rfl
theorem opr2Nop : Statement .opr2Nop := rfl
theorem las : Statement .las := rfl
theorem opr2 (cla sma sza snl rev osr hlt : Bool) : Statement (.opr2 cla sma sza snl rev osr hlt) := by revert cla sma sza snl rev osr hlt; unfold Statement; decide
theorem cla3 : Statement .cla3 := rfl
theorem mqa : Statement .mqa := rfl
theorem mql : Statement .mql := rfl
theorem swp : Statement .swp := rfl
theorem opr3Nop : Statement .opr3Nop := rfl
theorem cam : Statement .cam := rfl
theorem acl : Statement .acl := rfl
theorem opr3 (cla mqa x040 mql : Bool) (x016 : BitVec 3) : Statement (.opr3 cla mqa x040 mql x016) := by revert cla mqa x040 mql x016; unfold Statement; decide

end Sys2Proof.Laws.TableRow
end

