-- ==== Sys2Proof/Laws/Shared.lean ====
section
/-! SUPPORT. One lemma per shared operation that says once what it can do: later proofs cite it and do not unfold the operation. -/

namespace Sys2Proof.Machine

/-! ## Addressing -/

theorem afterAddress_direct (s : State) (page : Bool) (off : BitVec 7) : s.afterAddress false page off = s := rfl

theorem effAddr_direct (s : State) (page : Bool) (off : BitVec 7) :
    s.effAddr false page off = s.directAddr page off := rfl

/-- The address phase writes at most the pointer of an auto-indexed reference (R77, R147). -/
theorem afterAddress_cases (s : State) (ind page : Bool) (off : BitVec 7) :
    s.afterAddress ind page off = s ∨
    (ind = true ∧ isAutoIndex (s.directAddr page off) = true ∧
      s.afterAddress ind page off =
        s.memWrite (s.directAddr page off) (s.memRead (s.directAddr page off) + 1)) := by
  unfold State.afterAddress
  simp only
  split
  · rename_i h
    simp only [Bool.and_eq_true] at h
    exact .inr ⟨h.1, h.2, rfl⟩
  · exact .inl rfl

/-- The address phase touches memory alone. -/
theorem afterAddress_frame (s : State) (ind page : Bool) (off : BitVec 7) :
    s.afterAddress ind page off = { s with mem := (s.afterAddress ind page off).mem } := by
  rcases afterAddress_cases s ind page off with h | ⟨-, -, h⟩ <;> rw [h]
  rfl

/-- The address phase keeps the canonical form of memory. -/
theorem afterAddress_wf {s : State} (h : s.mem.wf) (ind page : Bool) (off : BitVec 7) :
    (s.afterAddress ind page off).mem.wf := by
  rcases afterAddress_cases s ind page off with e | ⟨-, -, e⟩ <;> rw [e]
  · exact h
  · exact memWrite_wf h _ _

/-! ## Operate -/

theorem runGroup1_eq (cla cll cma cml iac : Bool) (rot : Rotate) (s : State) :
    runGroup1 cla cll cma cml iac rot s = .next { s with lac := group1Lac cla cll cma cml iac rot s.lac } := rfl

theorem runGroup2_eq (cla sma sza snl rev osr hlt : Bool) (s : State) :
    runGroup2 cla sma sza snl rev osr hlt s = .next { s with
      pc := if group2Skips sma sza snl rev s.lac then s.pc + 1 else s.pc
      lac := group2Lac cla osr s.sr s.lac
      signal := if hlt then .halt else s.signal } := by
  unfold runGroup2
  cases hlt <;> cases h : group2Skips sma sza snl rev s.lac <;> rfl

theorem runGroup3_eq (cla mqa mql : Bool) (s : State) :
    runGroup3 cla mqa mql s = .next { s with
      lac := (group3 cla mqa mql s.lac s.mq).1
      mq := (group3 cla mqa mql s.lac s.mq).2 } := rfl

/-! ## The Teletype and the bus -/

/-- What a poll's read leaves of the streams: only its own source has moved. -/
theorem readSource_frame {s : State} {a : ReadAnswer} {h : Streams} (hr : s.readSource = some (a, h)) :
    h = { s.streams with consoleIn := h.consoleIn, tape := h.tape } := by
  unfold State.readSource at hr
  split at hr
  · split at hr
    · exact nomatch hr
    · cases hr; rfl
  · cases hr; rfl

/-- The input step changes only the Teletype and the streams. -/
theorem pollInput_frame {s t : State} (h : s.pollInput = .next t) :
    t = { s with tty := t.tty, streams := t.streams } := by
  unfold State.pollInput at h
  split at h
  · split at h <;> cases h <;> rfl
  · cases h; rfl

/-- The poll changes only the Teletype and the streams (R245, R263). -/
theorem poll_frame {s t : State} (h : s.poll = .next t) :
    t = { s with tty := t.tty, streams := t.streams } := by
  unfold State.poll at h
  split at h
  · rename_i s1 h1
    cases h
    rw [pollInput_frame h1]
    unfold State.pollOutput
    split <;> rfl
  all_goals exact nomatch h

/-- TPC changes only the Teletype and the streams (R276). -/
theorem tpc_frame {s t : State} (h : s.tpc = .next t) :
    t = { s with tty := t.tty, streams := t.streams } := by
  unfold State.tpc at h
  split at h
  · split at h
    · exact nomatch h
    · split at h <;> cases h; rfl
  · split at h <;> cases h; rfl

/-- A failing write leaves PC as it was (R276, R302). -/
theorem tpc_fault {s : State} {f : Fault} (h : s.tpc = .fault f) : ∃ e, f = .ioWrite e s.pc := by
  unfold State.tpc at h
  split at h
  · split at h
    · exact nomatch h
    · split at h <;> cases h; exact ⟨_, rfl⟩
  · split at h <;> cases h; exact ⟨_, rfl⟩

theorem ttyInput_frame (b1 b2 b4 : Bool) (s : State) :
    s.ttyInput b1 b2 b4 = { s with
      pc := (s.ttyInput b1 b2 b4).pc, lac := (s.ttyInput b1 b2 b4).lac, tty := (s.ttyInput b1 b2 b4).tty } := by
  unfold State.ttyInput opIf State.ksf State.skipIf
  cases b1 <;> cases b2 <;> cases b4 <;> cases s.tty.ttiReady <;> rfl

/-- The micro-ops TCF and TPC change only the Teletype and the streams (R276, R278). -/
theorem ttyOutputOps_frame {b2 b4 : Bool} {s t : State} (h : s.ttyOutputOps b2 b4 = .next t) :
    t = { s with tty := t.tty, streams := t.streams } := by
  have hs : opIf b2 State.tcf s = { s with tty := (opIf b2 State.tcf s).tty } := by cases b2 <;> rfl
  unfold State.ttyOutputOps at h
  split at h
  · rw [tpc_frame h, hs]
  · cases h; rw [hs]

/-- An output word changes only PC, the Teletype and the streams. -/
theorem ttyOutput_frame {b1 b2 b4 : Bool} {s t : State} (h : s.ttyOutput b1 b2 b4 = .next t) :
    t = { s with pc := t.pc, tty := t.tty, streams := t.streams } := by
  unfold State.ttyOutput at h
  split at h
  · rename_i u hu
    cases h
    rw [ttyOutputOps_frame hu]
    unfold State.skipIf
    split <;> rfl
  all_goals exact nomatch h

/-- A failing output word leaves the PC it was given, so no skip of its own (R155, R302). -/
theorem ttyOutput_fault {b1 b2 b4 : Bool} {s : State} {f : Fault} (h : s.ttyOutput b1 b2 b4 = .fault f) :
    ∃ e, f = .ioWrite e s.pc := by
  unfold State.ttyOutput at h
  split at h
  · exact nomatch h
  · rename_i g hg
    cases h
    unfold State.ttyOutputOps at hg
    split at hg
    · obtain ⟨e, he⟩ := tpc_fault hg
      refine ⟨e, he.trans ?_⟩
      cases b2 <;> rfl
    · exact nomatch hg
  · exact nomatch h

/-- A Teletype IOT changes only PC, LAC, the Teletype and the streams (R245). -/
theorem ttyIot_frame {sel : Selector} {fn : BitVec 3} {s t : State} (h : ttyIot sel fn s = .next t) :
    t = { s with pc := t.pc, lac := t.lac, tty := t.tty, streams := t.streams } := by
  unfold ttyIot at h
  split at h
  · rename_i s1 h1
    have hp := poll_frame h1
    split at h
    · cases h; rw [ttyInput_frame, hp]
    · split at h
      · have := ttyOutput_frame h; rw [this, hp]
      · cases h; rw [hp]
  all_goals exact nomatch h

theorem otherIot_frame {s t : State} (h : otherIot s = .next t) :
    t = { s with pc := t.pc, lac := t.lac, streams := t.streams } := by
  unfold otherIot at h
  split at h
  · cases h; rfl
  · simp only at h
    split at h
    · cases h; rfl
    · exact nomatch h

/-- A device IOT changes only PC, LAC, the Teletype and the streams (R245). -/
theorem busDispatch_frame {sel : Selector} {fn : BitVec 3} {s t : State} (h : busDispatch sel fn s = .next t) :
    t = { s with pc := t.pc, lac := t.lac, tty := t.tty, streams := t.streams } := by
  unfold busDispatch at h
  split at h
  · cases h; rfl
  · exact ttyIot_frame h
  · have := otherIot_frame h; rw [this]

/-- An interrupt query changes only the Teletype and the streams (R244, R281). -/
theorem query_frame {d : Device} {s t : State} {r : Bool} (h : d.query s = .answer t r) :
    t = { s with tty := t.tty, streams := t.streams } := by
  unfold Device.query at h
  split at h
  · split at h
    · rename_i s1 h1; cases h; exact poll_frame h1
    all_goals exact nomatch h
  · split at h <;> cases h <;> rfl

/-- The interrupt poll either asks every device and enters nothing, or enters once, after queries that changed only the
Teletype and the streams (R310, R312). -/
theorem interruptPoll_cases {ds : List Device} {s t : State} (h : interruptPoll ds s = .next t) :
    ∃ u : State, u = { s with tty := u.tty, streams := u.streams } ∧ (t = u ∨ t = u.enterInterrupt) := by
  induction ds generalizing s with
  | nil => cases h; exact ⟨_, rfl, .inl rfl⟩
  | cons d ds ih =>
    unfold interruptPoll at h
    split at h
    · rename_i s1 hq; cases h; exact ⟨s1, query_frame hq, .inr rfl⟩
    · rename_i s1 hq
      obtain ⟨u, hu, ht⟩ := ih h
      refine ⟨u, ?_, ht⟩
      rw [hu, query_frame hq]
    all_goals exact nomatch h

/-! ## Host construction -/

/-- Constructing the Teletype over console streams leaves the core and the bus as they were (R341, R346). -/
theorem constructTeletype_frame (i : List ReadAnswer) (o : Sink) (s : State) :
    constructTeletype i o s = { s with
      tty := .constructed
      streams := { s.streams with consoleIn := i, tape := none, consoleOut := o, punch := none } } := rfl

/-- The machine after construction is one built over silent console streams, before any host operation (R45, R341). -/
theorem constructTeletype_constructed :
    constructTeletype [] { written := [], answers := [] } State.constructed = State.constructed := rfl

/-! ## The iteration -/

/-- What the end of an iteration can do (R151): a halt stops it after promotion; else at most one interrupt is entered, and the
exit request is taken. -/
theorem endIteration_cases {p : Bool} {s t : State} (h : s.endIteration p = .next t) :
    (s.signal = .halt ∧ t = s.promote p) ∨
    (s.signal ≠ .halt ∧ (s.promote p).ien = false ∧ t = (s.promote p).takeExit) ∨
    (s.signal ≠ .halt ∧ (s.promote p).ien = true ∧
      ∃ u, interruptPoll s.devices (s.promote p) = .next u ∧ t = u.takeExit) := by
  unfold State.endIteration at h
  simp only [promote_signal] at h
  split at h
  · rename_i hs; cases h; exact .inl ⟨hs, rfl⟩
  · rename_i hs
    split at h
    · rename_i u hp
      cases h
      unfold State.pollIfEnabled at hp
      split at hp
      · rename_i hi; simp only [promote_devices] at hp; exact .inr (.inr ⟨hs, hi, u, hp, rfl⟩)
      · rename_i hi; cases hp; exact .inr (.inl ⟨hs, by simpa using hi, rfl⟩)
    all_goals exact nomatch h

/-- A step that goes on executed its instruction and ended its iteration (R151). -/
theorem step_cases {s t : State} (h : step s = .next t) :
    ∃ u, exec s.fetched s.fetch = .next u ∧ u.endIteration s.ionPending = .next t := by
  unfold step iteration at h
  split at h
  · rename_i u hu; exact ⟨u, hu, h⟩
  all_goals exact nomatch h

end Sys2Proof.Machine
end

