-- ==== Sys2Proof/Tests/Slice0.lean ====
section
/-! SUPPORT. The model's own tests: small, one step each. Expected values come from spec/95_test_vectors.md (the vector is named) or from the rule named; none is the model's own answer. Then a witness for the hypotheses of each statement. -/

namespace Sys2Proof.Tests

open Sys2Proof Sys2Proof.Machine

/-- A state about to execute the word `w` at `pc`, with `lac`. -/
def at_ (pc : Word) (w : Word) (lac : Lac := 0) : State :=
  { State.reset with pc := pc, lac := lac, mem := Memory.write [] pc.toNat w }

/-- The next state of a step, if it goes on. -/
def after (s : State) : Option State :=
  match step s with
  | .next t => some t
  | .fault _ => none
  | .refused _ => none

/-- The fault of a step, if it faults. -/
def faultOf (s : State) : Option Fault :=
  match step s with
  | .next _ => none
  | .fault f => some f
  | .refused _ => none

/-- The refusal of a step, if it refuses. -/
def refusalOf (s : State) : Option Refusal :=
  match step s with
  | .next _ => none
  | .fault _ => none
  | .refused r => some r

/-- What a Run ends with: budget left, PC, signal. -/
def endOf : RunResult → Option (Nat × Word × Signal)
  | .halted n t => some (n, t.pc, t.signal)
  | .exhausted t => some (0, t.pc, t.signal)
  | .exit n t => some (n, t.pc, t.signal)
  | .error _ _ => none
  | .refused _ => none

/-! ## Well-formedness: one ill-formed term for each check (R117) -/

theorem test_wf_tti_refused : wellFormed (.tti true false false) = false := by decide
theorem test_wf_tto_refused : wellFormed (.tto false false true) = false := by decide
theorem test_wf_unclaimed_cpu_selector_refused : wellFormed (.iotUnclaimed 0 1) = false := by decide
theorem test_wf_unclaimed_input_selector_refused : wellFormed (.iotUnclaimed 3 1) = false := by decide
theorem test_wf_unclaimed_output_selector_refused : wellFormed (.iotUnclaimed 4 1) = false := by decide
theorem test_wf_opr1_of_named_word_refused : wellFormed (.opr1 true true false false false .off) = false := by decide
theorem test_wf_opr2_of_named_word_refused : wellFormed (.opr2 true false false false false true false) = false := by decide
theorem test_wf_opr3_of_named_word_refused : wellFormed (.opr3 true true false false 0) = false := by decide
theorem test_wf_opr3_with_ignored_bit : wellFormed (.opr3 true true true false 0) = true := by decide

/-! ## Decoding of words written out from the spec's formats (R102 to R112) -/

theorem test_decode_ion : decode 0o6001 = .ion := by decide
theorem test_decode_iof : decode 0o6002 = .iof := by decide
theorem test_decode_iot00 : decode 0o6000 = .iot00 := by decide
theorem test_decode_iot03 : decode 0o6003 = .iot03 := by decide
theorem test_decode_iot04 : decode 0o6004 = .iot04 := by decide
theorem test_decode_iot05 : decode 0o6005 = .iot05 := by decide
theorem test_decode_iot06 : decode 0o6006 = .iot06 := by decide
theorem test_decode_iot07 : decode 0o6007 = .iot07 := by decide
theorem test_decode_ksf : decode 0o6031 = .ksf := by decide
theorem test_decode_kcc : decode 0o6032 = .kcc := by decide
theorem test_decode_krs : decode 0o6034 = .krs := by decide
theorem test_decode_krb : decode 0o6036 = .krb := by decide
theorem test_decode_tti0 : decode 0o6030 = .tti0 := by decide
theorem test_decode_ksfKcc : decode 0o6033 = .ksfKcc := by decide
theorem test_decode_ksfKrs : decode 0o6035 = .ksfKrs := by decide
theorem test_decode_ksfKrb : decode 0o6037 = .ksfKrb := by decide
theorem test_decode_tsf : decode 0o6041 = .tsf := by decide
theorem test_decode_tcf : decode 0o6042 = .tcf := by decide
theorem test_decode_tpc : decode 0o6044 = .tpc := by decide
theorem test_decode_tls : decode 0o6046 = .tls := by decide
theorem test_decode_tto0 : decode 0o6040 = .tto0 := by decide
theorem test_decode_tsfTcf : decode 0o6043 = .tsfTcf := by decide
theorem test_decode_tsfTpc : decode 0o6045 = .tsfTpc := by decide
theorem test_decode_tsfTls : decode 0o6047 = .tsfTls := by decide
theorem test_decode_cla1 : decode 0o7200 = .cla1 := by decide
theorem test_decode_cll : decode 0o7100 = .cll := by decide
theorem test_decode_cma : decode 0o7040 = .cma := by decide
theorem test_decode_cml : decode 0o7020 = .cml := by decide
theorem test_decode_iac : decode 0o7001 = .iac := by decide
theorem test_decode_rar : decode 0o7010 = .rar := by decide
theorem test_decode_ral : decode 0o7004 = .ral := by decide
theorem test_decode_rtr : decode 0o7012 = .rtr := by decide
theorem test_decode_rtl : decode 0o7006 = .rtl := by decide
theorem test_decode_bsw : decode 0o7002 = .bsw := by decide
theorem test_decode_nop : decode 0o7000 = .nop := by decide
theorem test_decode_cia : decode 0o7041 = .cia := by decide
theorem test_decode_stl : decode 0o7120 = .stl := by decide
theorem test_decode_sta : decode 0o7240 = .sta := by decide
theorem test_decode_glk : decode 0o7204 = .glk := by decide
theorem test_decode_claCll : decode 0o7300 = .claCll := by decide
theorem test_decode_sma : decode 0o7500 = .sma := by decide
theorem test_decode_sza : decode 0o7440 = .sza := by decide
theorem test_decode_snl : decode 0o7420 = .snl := by decide
theorem test_decode_spa : decode 0o7510 = .spa := by decide
theorem test_decode_sna : decode 0o7450 = .sna := by decide
theorem test_decode_szl : decode 0o7430 = .szl := by decide
theorem test_decode_skp : decode 0o7410 = .skp := by decide
theorem test_decode_cla2 : decode 0o7600 = .cla2 := by decide
theorem test_decode_osr : decode 0o7404 = .osr := by decide
theorem test_decode_hlt : decode 0o7402 = .hlt := by decide
theorem test_decode_opr2Nop : decode 0o7400 = .opr2Nop := by decide
theorem test_decode_las : decode 0o7604 = .las := by decide
theorem test_decode_cla3 : decode 0o7601 = .cla3 := by decide
theorem test_decode_mqa : decode 0o7501 = .mqa := by decide
theorem test_decode_mql : decode 0o7421 = .mql := by decide
theorem test_decode_swp : decode 0o7521 = .swp := by decide
theorem test_decode_opr3Nop : decode 0o7401 = .opr3Nop := by decide
theorem test_decode_cam : decode 0o7621 = .cam := by decide
theorem test_decode_acl : decode 0o7701 = .acl := by decide
theorem test_decode_fields_and : decode 0b000100010000 = .and true false 0o020 := by decide
theorem test_decode_fields_tad : decode 0b001010000110 = .tad false true 0o006 := by decide
theorem test_decode_fields_isz : decode 0b010100001111 = .isz true false 0o017 := by decide
theorem test_decode_fields_dca : decode 0b011010101000 = .dca false true 0o050 := by decide
theorem test_decode_fields_jms : decode 0b100011111111 = .jms false true 0o177 := by decide
theorem test_decode_fields_jmp : decode 0b101100001000 = .jmp true false 0o010 := by decide
theorem test_decode_fields_iotUnclaimed : decode 0b110001000001 = .iotUnclaimed 0o10 1 := by decide
theorem test_decode_fields_opr1 : decode 0b111000000011 = .opr1 false false false false true .bsw := by decide
theorem test_decode_fields_opr1_all : decode 0b111011111011 = .opr1 true true true true true .rtr := by decide
theorem test_decode_fields_opr1Rot014 : decode 0b111010001100 = .opr1Rot014 true false false false false := by decide
theorem test_decode_fields_opr1Rot016 : decode 0b111000001110 = .opr1Rot016 false false false false false := by decide
theorem test_decode_fields_opr2 : decode 0b111110100000 = .opr2 true false true false false false false := by decide
theorem test_decode_fields_opr2_skp_hlt : decode 0b111100001010 = .opr2 false false false false true false true := by decide
theorem test_decode_fields_opr3 : decode 0b111100100001 = .opr3 false false true false 0 := by decide
theorem test_decode_fields_opr3_016 : decode 0b111100000011 = .opr3 false false false false 1 := by decide
theorem test_decode_wide_number_rejected : decodeTableWord 16 0o10000 = none := by decide
theorem test_decode_table_word : decodeTableWord 16 0o7402 = some .hlt := by decide

/-! ## Fetch and effective address (L2.1) -/

/-- EA1 -/
theorem test_fetch_ea1 : (at_ 0o0200 0o7300).fetch.ir = 0o7300 ∧ (at_ 0o0200 0o7300).fetch.pc = 0o0201 := by decide
/-- EA2 -/
theorem test_fetch_wraps_ea2 : (after (at_ 0o7777 0o7000)).map (·.pc) = some 0 := by decide
/-- EA5, both values of PAGE_BASE -/
theorem test_page_base_ea5 :
    (after (at_ 0o0377 0o5200)).map (·.pc) = some 0o0200 ∧
    (after { at_ 0o0377 0o5200 with params := { Params.default with pageBase := .incrementedPc } }).map (·.pc) = some 0o0400 := by
  decide
/-- EA7 -/
theorem test_auto_index_wraps_ea7 :
    (after ((at_ 0o0200 0o1410).memWrite 0o10 0o7777)).map (fun t => (t.memRead 0o10, t.lac)) = some (0, 0) := by decide
/-- EA8 -/
theorem test_indirect_without_auto_index_ea8 :
    (after (((at_ 0o0200 0o1420).memWrite 0o20 0o0500).memWrite 0o0500 7)).map (fun t => (t.memRead 0o20, t.lac)) =
      some (0o0500, 7) := by decide
/-- EA9: auto-index fires through the current page, from page zero -/
theorem test_auto_index_current_page_ea9 :
    (after (((at_ 0o0003 0o1610).memWrite 0o10 0o0100).memWrite 0o0101 5)).map (fun t => (t.memRead 0o10, t.lac)) =
      some (0o0101, 5) := by decide
/-- EA10: the pointer points to itself -/
theorem test_isz_pointer_to_itself_ea10 :
    (after ((at_ 0o0200 0o2417).memWrite 0o17 0o0016)).map (fun t => (t.memRead 0o17, t.pc)) = some (0o0020, 0o0201) := by
  decide
/-- Scenario 6 (L1.1) -/
theorem test_auto_index_scenario6 :
    (after (((at_ 0o0200 0o1410 0o00001).memWrite 0o10 0o0377).memWrite 0o0400 5)).map (fun t => (t.memRead 0o10, t.lac)) =
      some (0o0400, 0o00006) := by decide

/-! ## Memory reference (L2.2); direct, page zero, EA 0o0100 -/

/-- M1 -/
theorem test_and_m1 : (after ((at_ 0o0300 0o0100 0o15555).memWrite 0o100 0o0707)).map (fun t => t.lac) = some 0o10505 := by decide
/-- M2 -/
theorem test_and_m2 : (after ((at_ 0o0300 0o0100 0o07777).memWrite 0o100 0)).map (fun t => t.lac) = some 0 := by decide
/-- M4 -/
theorem test_tad_m4 : (after ((at_ 0o0300 0o1100 0o03777).memWrite 0o100 0o4001)).map (fun t => t.lac) = some 0o10000 := by decide
/-- M5 -/
theorem test_tad_m5 : (after ((at_ 0o0300 0o1100 0o17777).memWrite 0o100 1)).map (fun t => t.lac) = some 0 := by decide
/-- M8 -/
theorem test_isz_m8 : (after ((at_ 0o0300 0o2100 0).memWrite 0o100 0o7776)).map (fun t => (t.memRead 0o100, t.pc)) = some (0o7777, 0o0301) := by decide
/-- M11 -/
theorem test_isz_m11 : (after ((at_ 0o7777 0o2100 0).memWrite 0o100 0o7777)).map (fun t => (t.memRead 0o100, t.pc)) = some (0, 0o0001) := by decide
/-- M12 -/
theorem test_dca_m12 : (after ((at_ 0o0300 0o3100 0o11234).memWrite 0o100 0)).map (fun t => (t.memRead 0o100, t.lac)) = some (0o1234, 0o10000) := by decide
/-- M13: DCA to itself -/
theorem test_dca_m13 : (after (at_ 0o0250 0o3250 0o07402)).map (fun t => (t.memRead 0o250, t.ir)) = some (0o7402, 0o3250) := by decide
/-- M14 -/
theorem test_jms_m14 : (after (at_ 0o0202 0o4210)).map (fun t => (t.memRead 0o0010, t.memRead 0o0210, t.pc)) = some (0, 0o0203, 0o0211) := by decide
/-- M15 (word 0o4377 at 0o7700: EA 0o7777 needs the page of 0o7700) -/
theorem test_jms_m15 : (after (at_ 0o7700 0o4377)).map (fun t => (t.memRead 0o7777, t.pc)) = some (0o7701, 0) := by decide
/-- M16 -/
theorem test_jmp_m16 : (after (at_ 0o0204 0o5201)).map (·.pc) = some 0o0201 := by decide
/-- M17 -/
theorem test_jmp_m17 : (after ((at_ 0o0300 0o5410).memWrite 0o10 0o0277)).map (fun t => (t.memRead 0o10, t.pc)) = some (0o0300, 0o0300) := by decide

/-! ## OPR group 1 (L2.3) -/

theorem test_cla1_g1_1 : (after (at_ 0o0300 0o7200 0o15432)).map (fun t => (t.lac, t.pc)) = some (0o10000, 0o0301) := by decide
theorem test_cll_g1_2 : (after (at_ 0o0300 0o7100 0o15432)).map (fun t => (t.lac, t.pc)) = some (0o05432, 0o0301) := by decide
theorem test_cma_g1_3 : (after (at_ 0o0300 0o7040 0o00000)).map (fun t => (t.lac, t.pc)) = some (0o07777, 0o0301) := by decide
theorem test_cml_g1_4 : (after (at_ 0o0300 0o7020 0o00005)).map (fun t => (t.lac, t.pc)) = some (0o10005, 0o0301) := by decide
theorem test_iac_g1_6 : (after (at_ 0o0300 0o7001 0o07777)).map (fun t => (t.lac, t.pc)) = some (0o10000, 0o0301) := by decide
theorem test_iac_g1_7 : (after (at_ 0o0300 0o7001 0o17777)).map (fun t => (t.lac, t.pc)) = some (0o00000, 0o0301) := by decide
theorem test_rar_g1_8 : (after (at_ 0o0300 0o7010 0o00001)).map (fun t => (t.lac, t.pc)) = some (0o10000, 0o0301) := by decide
theorem test_ral_g1_9 : (after (at_ 0o0300 0o7004 0o04000)).map (fun t => (t.lac, t.pc)) = some (0o10000, 0o0301) := by decide
theorem test_ral_g1_10 : (after (at_ 0o0300 0o7004 0o10000)).map (fun t => (t.lac, t.pc)) = some (0o00001, 0o0301) := by decide
theorem test_rtr_g1_11 : (after (at_ 0o0300 0o7012 0o00001)).map (fun t => (t.lac, t.pc)) = some (0o04000, 0o0301) := by decide
theorem test_rtl_g1_12 : (after (at_ 0o0300 0o7006 0o10000)).map (fun t => (t.lac, t.pc)) = some (0o00002, 0o0301) := by decide
theorem test_bsw_g1_13 : (after (at_ 0o0300 0o7002 0o11234)).map (fun t => (t.lac, t.pc)) = some (0o13412, 0o0301) := by decide
theorem test_opr1_iac_bsw_g1_14 : (after (at_ 0o0300 0o7003 0o00077)).map (fun t => (t.lac, t.pc)) = some (0o00001, 0o0301) := by decide
theorem test_opr1_cll_rtl_g1_16 : (after (at_ 0o0300 0o7106 0o14001)).map (fun t => (t.lac, t.pc)) = some (0o00005, 0o0301) := by decide
theorem test_glk_g1_17 : (after (at_ 0o0300 0o7204 0o12345)).map (fun t => (t.lac, t.pc)) = some (0o00001, 0o0301) := by decide
theorem test_claCll_g1_18 : (after (at_ 0o0300 0o7300 0o15432)).map (fun t => (t.lac, t.pc)) = some (0o00000, 0o0301) := by decide
theorem test_sta_g1_19 : (after (at_ 0o0300 0o7240 0o10000)).map (fun t => (t.lac, t.pc)) = some (0o17777, 0o0301) := by decide
theorem test_cia_g1_20 : (after (at_ 0o0300 0o7041 0o00005)).map (fun t => (t.lac, t.pc)) = some (0o07773, 0o0301) := by decide
theorem test_cia_g1_21 : (after (at_ 0o0300 0o7041 0o00000)).map (fun t => (t.lac, t.pc)) = some (0o10000, 0o0301) := by decide
theorem test_stl_g1_22 : (after (at_ 0o0300 0o7120 0o01234)).map (fun t => (t.lac, t.pc)) = some (0o11234, 0o0301) := by decide
theorem test_nop_g1_24 : (after (at_ 0o0300 0o7000 0o12345)).map (fun t => (t.lac, t.pc)) = some (0o12345, 0o0301) := by decide
theorem test_rot014_g1_25 : (after (at_ 0o0300 0o7214 0o15555)).map (fun t => (t.lac, t.pc)) = some (0o10000, 0o0301) := by decide
theorem test_rot016_g1_26 : (after (at_ 0o0300 0o7016 0o12345)).map (fun t => (t.lac, t.pc)) = some (0o12345, 0o0301) := by decide
/-- G1-25 and G1-26 under `refuse` -/
theorem test_rot_refused :
    refusalOf { at_ 0o0300 0o7214 with params := { Params.default with undefRotate := .refuse } } = some .undefRotate ∧
    refusalOf { at_ 0o0300 0o7016 with params := { Params.default with undefRotate := .refuse } } = some .undefRotate := by decide
/-- I-7 -/
theorem test_rar_i7 : ror13 0o12345 = 0o15162 ∧ rol13 0o15162 = 0o12345 ∧ rol13 0o12345 = 0o04713 := by decide

/-! ## OPR group 2 (L2.4), IA = 0o0300 -/

theorem test_sma_g2_1 : (after (at_ 0o0300 0o7500 0o14000)).map (fun t => (t.lac, t.pc)) = some (0o14000, 0o0302) := by decide
theorem test_sma_g2_2 : (after (at_ 0o0300 0o7500 0o13777)).map (fun t => (t.lac, t.pc)) = some (0o13777, 0o0301) := by decide
theorem test_sza_g2_3 : (after (at_ 0o0300 0o7440 0o10000)).map (fun t => (t.lac, t.pc)) = some (0o10000, 0o0302) := by decide
theorem test_sza_g2_4 : (after (at_ 0o0300 0o7440 0o00001)).map (fun t => (t.lac, t.pc)) = some (0o00001, 0o0301) := by decide
theorem test_snl_g2_5 : (after (at_ 0o0300 0o7420 0o10000)).map (fun t => (t.lac, t.pc)) = some (0o10000, 0o0302) := by decide
theorem test_spa_g2_6 : (after (at_ 0o0300 0o7510 0o00000)).map (fun t => (t.lac, t.pc)) = some (0o00000, 0o0302) := by decide
theorem test_spa_g2_7 : (after (at_ 0o0300 0o7510 0o04000)).map (fun t => (t.lac, t.pc)) = some (0o04000, 0o0301) := by decide
theorem test_sna_g2_8 : (after (at_ 0o0300 0o7450 0o10000)).map (fun t => (t.lac, t.pc)) = some (0o10000, 0o0301) := by decide
theorem test_sna_g2_9 : (after (at_ 0o0300 0o7450 0o00100)).map (fun t => (t.lac, t.pc)) = some (0o00100, 0o0302) := by decide
theorem test_szl_g2_10 : (after (at_ 0o0300 0o7430 0o07777)).map (fun t => (t.lac, t.pc)) = some (0o07777, 0o0302) := by decide
theorem test_szl_g2_11 : (after (at_ 0o0300 0o7430 0o10000)).map (fun t => (t.lac, t.pc)) = some (0o10000, 0o0301) := by decide
theorem test_skp_g2_12 : (after (at_ 0o0300 0o7410 0o12345)).map (fun t => (t.lac, t.pc)) = some (0o12345, 0o0302) := by decide
theorem test_opr2Nop_g2_14 : (after (at_ 0o0300 0o7400 0o12345)).map (fun t => (t.lac, t.pc)) = some (0o12345, 0o0301) := by decide
theorem test_opr2_g2_15 : (after (at_ 0o0300 0o7540 0o04000)).map (fun t => (t.lac, t.pc)) = some (0o04000, 0o0302) := by decide
theorem test_opr2_g2_16 : (after (at_ 0o0300 0o7550 0o04000)).map (fun t => (t.lac, t.pc)) = some (0o04000, 0o0301) := by decide
theorem test_opr2_g2_19 : (after (at_ 0o0300 0o7640 0o00000)).map (fun t => (t.lac, t.pc)) = some (0o00000, 0o0302) := by decide
theorem test_opr2_g2_20 : (after (at_ 0o0300 0o7640 0o10005)).map (fun t => (t.lac, t.pc)) = some (0o10000, 0o0301) := by decide
theorem test_cla2 : (after (at_ 0o0300 0o7600 0o12345)).map (fun t => (t.lac, t.pc)) = some (0o10000, 0o0301) := by decide
/-- G2-13 -/
theorem test_skp_wraps_g2_13 : (after (at_ 0o7777 0o7410)).map (·.pc) = some 1 := by decide
/-- G2-21 -/
theorem test_osr_g2_21 : (after { at_ 0o0300 0o7404 0o00070 with sr := 0o4400 }).map (·.lac) = some 0o04470 := by decide
/-- G2-22 -/
theorem test_las_g2_22 : (after { at_ 0o0300 0o7604 0o11111 with sr := 0o4400 }).map (·.lac) = some 0o14400 := by decide
/-- G2-23 -/
theorem test_hlt_g2_23 : (after (at_ 0o0204 0o7402)).map (fun t => (t.pc, t.ir, t.signal)) = some (0o0205, 0o7402, .halt) := by decide
/-- G2-24 -/
theorem test_skp_hlt_g2_24 : (after (at_ 0o0204 0o7412)).map (fun t => (t.pc, t.signal)) = some (0o0206, .halt) := by decide
/-- G2-25 -/
theorem test_osr_hlt_g2_25 : (after { at_ 0o0300 0o7406 with sr := 0o1234 }).map (fun t => (t.lac, t.signal)) = some (0o01234, .halt) := by decide

/-! ## OPR group 3 (L2.5) -/

theorem test_cla3_g3_1 : (after { at_ 0o0300 0o7601 0o17777 with mq := 0o0000 }).map (fun t => (t.lac, t.mq, t.pc)) = some (0o10000, 0o0000, 0o0301) := by decide
theorem test_mqa_g3_2 : (after { at_ 0o0300 0o7501 0o00000 with mq := 0o2222 }).map (fun t => (t.lac, t.mq, t.pc)) = some (0o02222, 0o2222, 0o0301) := by decide
theorem test_mqa_g3_3 : (after { at_ 0o0300 0o7501 0o00707 with mq := 0o0070 }).map (fun t => (t.lac, t.mq, t.pc)) = some (0o00777, 0o0070, 0o0301) := by decide
theorem test_mql_g3_4 : (after { at_ 0o0300 0o7421 0o11234 with mq := 0o0000 }).map (fun t => (t.lac, t.mq, t.pc)) = some (0o10000, 0o1234, 0o0301) := by decide
theorem test_swp_g3_5 : (after { at_ 0o0300 0o7521 0o11111 with mq := 0o2222 }).map (fun t => (t.lac, t.mq, t.pc)) = some (0o12222, 0o1111, 0o0301) := by decide
theorem test_cam_g3_6 : (after { at_ 0o0300 0o7621 0o15555 with mq := 0o3333 }).map (fun t => (t.lac, t.mq, t.pc)) = some (0o10000, 0o0000, 0o0301) := by decide
theorem test_acl_g3_7 : (after { at_ 0o0300 0o7701 0o17777 with mq := 0o3456 }).map (fun t => (t.lac, t.mq, t.pc)) = some (0o13456, 0o3456, 0o0301) := by decide
theorem test_opr3_g3_8 : (after { at_ 0o0300 0o7721 0o11111 with mq := 0o2222 }).map (fun t => (t.lac, t.mq, t.pc)) = some (0o12222, 0o0000, 0o0301) := by decide
theorem test_opr3Nop_g3_9 : (after { at_ 0o0300 0o7401 0o12345 with mq := 0o4321 }).map (fun t => (t.lac, t.mq, t.pc)) = some (0o12345, 0o4321, 0o0301) := by decide
theorem test_opr3_g3_10 : (after { at_ 0o0300 0o7441 0o12345 with mq := 0o4321 }).map (fun t => (t.lac, t.mq, t.pc)) = some (0o12345, 0o4321, 0o0301) := by decide
/-- G3-10 and G3-11 under `refuse` -/
theorem test_group3_extra_refused :
    refusalOf { at_ 0o0300 0o7441 with params := { Params.default with group3Extra := .refuse } } = some .group3Extra ∧
    refusalOf { at_ 0o0300 0o7403 with params := { Params.default with group3Extra := .refuse } } = some .group3Extra := by decide

/-! ## CPU IOTs and the bus (L2.6) -/

/-- IO1, first word -/
theorem test_ion_io1 : (after (at_ 0o0202 0o6001)).map (fun t => (t.ionPending, t.ien)) = some (true, false) := by decide
/-- IO1, second word -/
theorem test_ion_promoted_io1 :
    (after { at_ 0o0203 0o7000 with ionPending := true }).map (fun t => (t.ionPending, t.ien)) = some (false, true) := by decide
/-- IO2, second word: IOF after ION -/
theorem test_iof_io2 :
    (after { at_ 0o0203 0o6002 with ionPending := true }).map (fun t => (t.ionPending, t.ien)) = some (false, false) := by decide
/-- IO3 -/
theorem test_iof_io3 :
    (after { at_ 0o0203 0o6002 with ien := true, tty := { Teletype.constructed with ttoReady := true } }).map
      (fun t => (t.ien, t.tty.ttoIntPending, t.pc)) = some (false, false, 0o0204) := by decide
/-- IO5 -/
theorem test_iot00_ignored : (after (at_ 0o0300 0o6000 0o12345)).map (fun t => (t.lac, t.pc, t.ien, t.ionPending)) = some (0o12345, 0o0301, false, false) := by decide
/-- IO4 -/
theorem test_iot03_ignored : (after (at_ 0o0300 0o6003 0o12345)).map (fun t => (t.lac, t.pc, t.ien, t.ionPending)) = some (0o12345, 0o0301, false, false) := by decide
/-- IO5 -/
theorem test_iot04_ignored : (after (at_ 0o0300 0o6004 0o12345)).map (fun t => (t.lac, t.pc, t.ien, t.ionPending)) = some (0o12345, 0o0301, false, false) := by decide
/-- IO5 -/
theorem test_iot05_ignored : (after (at_ 0o0300 0o6005 0o12345)).map (fun t => (t.lac, t.pc, t.ien, t.ionPending)) = some (0o12345, 0o0301, false, false) := by decide
/-- IO5 -/
theorem test_iot06_ignored : (after (at_ 0o0300 0o6006 0o12345)).map (fun t => (t.lac, t.pc, t.ien, t.ionPending)) = some (0o12345, 0o0301, false, false) := by decide
/-- IO5 -/
theorem test_iot07_ignored : (after (at_ 0o0300 0o6007 0o12345)).map (fun t => (t.lac, t.pc, t.ien, t.ionPending)) = some (0o12345, 0o0301, false, false) := by decide
/-- IO6: no Teletype poll, although a byte is waiting -/
theorem test_unclaimed_io6 :
    (after { at_ 0o0300 0o6101 with streams := { Streams.constructed with consoleIn := [.byte 0o101] } }).map
      (fun t => (t.pc, t.tty.ttiReady, t.streams.consoleIn)) = some (0o0301, false, [.byte 0o101]) := by decide
/-- IO9 -/
theorem test_register_conflict_io9 :
    (match registerDevice (.other [0o4]) State.reset with | .refused r => some r | .next _ => none | .fault _ => none) =
      some .regConflict := by decide
/-- R246, D22: another device's PC and LAC are masked -/
theorem test_other_device_masked :
    (after { at_ 0o0300 0o6101 with
      devices := [.other [0o10]]
      streams := { Streams.constructed with iotAnswers := [{ pc := 4096 + 5, lac := 8192 + 7, err := none }] } }).map
      (fun t => (t.pc, t.lac)) = some (5, 7) := by decide

/-! ## Teletype (L2.7) -/

/-- A state about to execute `w` at 0o0201 with a given Teletype and streams. -/
def atTty (w : Word) (t : Teletype) (h : Streams) (lac : Lac := 0) : State :=
  { at_ 0o0201 w lac with tty := t, streams := h }

def fresh : Teletype := Teletype.constructed
def quiet : Streams := Streams.constructed
def console (l : List ReadAnswer) : Streams := { Streams.constructed with consoleIn := l }
def onTape (l : List TapeItem) : Streams := { Streams.constructed with tape := some l }

/-- T1 -/
theorem test_ksf_t1 : (after (atTty 0o6031 fresh quiet)).map (·.pc) = some 0o0202 := by decide
/-- T2 -/
theorem test_ksf_t2 : (after (atTty 0o6031 fresh (console [.byte 0o101]))).map
    (fun t => (t.tty.ttiBuffer, t.tty.ttiReady, t.tty.ttiReaderRun, t.tty.ttiIntPending, t.pc)) =
      some (0o101, true, false, true, 0o0203) := by decide
/-- T3 -/
theorem test_krb_t3 : (after (atTty 0o6036 { fresh with ttiReady := true, ttiIntPending := true, ttiBuffer := 0o101 } quiet 0o11234)).map
    (fun t => (t.lac, t.tty.ttiReady, t.tty.ttiIntPending, t.tty.ttiReaderRun)) = some (0o10301, false, false, true) := by decide
/-- T4 -/
theorem test_krs_t4 : (after (atTty 0o6034 { fresh with ttiReaderActive := true, ttiBuffer := 0o101 } (onTape []) 0o00200)).map (·.lac) =
    some 0o00301 := by decide
/-- T5 -/
theorem test_krs_t5 : (after (atTty 0o6034 { fresh with ttiBuffer := 0o101 } quiet)).map (·.lac) = some 0o00301 := by decide
/-- T6 -/
theorem test_ksf_unarmed_t6 : (after (atTty 0o6031 { fresh with ttiReaderActive := true } (onTape [.byte 0o101]))).map
    (fun t => (t.pc, t.tty.readerPos)) = some (0o0202, 0) := by decide
/-- T7, the KCC -/
theorem test_kcc_t7 : (after (atTty 0o6032 { fresh with ttiReaderActive := true } (onTape [.byte 0o101]) 0o11234)).map
    (fun t => (t.lac, t.tty.ttiReady, t.tty.ttiReaderRun)) = some (0o10000, false, true) := by decide
/-- T7, the KSF -/
theorem test_ksf_tape_t7 : (after (atTty 0o6031 { fresh with ttiReaderActive := true, ttiReaderRun := true } (onTape [.byte 0o101]))).map
    (fun t => (t.tty.ttiBuffer, t.tty.readerPos, t.tty.ttiReaderRun, t.pc)) = some (0o101, 1, false, 0o0203) := by decide
/-- T8 -/
theorem test_ksf_eof_t8 : (after (atTty 0o6031 { fresh with ttiReaderActive := true, ttiReaderRun := true } (onTape []))).map
    (fun t => (t.tty.ttiReaderEof, t.tty.ttiReaderRun, t.tty.ttiReady, t.pc)) = some (true, true, false, 0o0202) := by decide
/-- T9 -/
theorem test_exit_t9 : (after (atTty 0o6031 fresh (console [.byte 0x1C]))).map
    (fun t => (t.tty.ttiBuffer, t.tty.exitRequest, t.signal, t.pc)) = some (0o034, false, .exit, 0o0203) := by decide
/-- T10 -/
theorem test_tape_0x1c_t10 : (after (atTty 0o6031 { fresh with ttiReaderActive := true, ttiReaderRun := true } (onTape [.byte 0x1C]))).map
    (fun t => (t.signal, t.pc)) = some (.cont, 0o0203) := by decide
/-- T12 -/
theorem test_tsf_t12 : (after (atTty 0o6041 fresh quiet)).map (·.pc) = some 0o0202 := by decide
/-- T13 -/
theorem test_tpc_t13 : (after (atTty 0o6044 fresh quiet 0o10301)).map
    (fun t => (t.streams.consoleOut.written, t.tty.ttoReady, t.lac, t.tty.ttoIntPending)) = some ([0x41], true, 0o10301, false) := by decide
/-- T14 -/
theorem test_tpc_punch_t14 : (after (atTty 0o6044 { fresh with ttoPunchActive := true }
    { Streams.constructed with punch := some { written := [], answers := [] } } 0o10301)).map
    (fun t => t.streams.punch) = some (some { written := [0xC1], answers := [] }) := by decide
/-- T16 -/
theorem test_tsf_t16 : (after (atTty 0o6041 { fresh with ttoReady := true } quiet)).map
    (fun t => (t.tty.ttoIntPending, t.pc)) = some (true, 0o0203) := by decide
/-- T17 -/
theorem test_tcf_t17 : (after (atTty 0o6042 { fresh with ttoReady := true } quiet)).map
    (fun t => (t.tty.ttoReady, t.tty.ttoIntPending)) = some (false, false) := by decide
/-- T18 -/
theorem test_tls_t18 : (after (atTty 0o6046 fresh quiet 0o00110)).map
    (fun t => (t.streams.consoleOut.written, t.tty.ttoReady, t.tty.ttoIntPending)) = some ([0x48], true, false) := by decide
/-- T19 -/
theorem test_tsfTpc_t19 : (after (atTty 0o6045 fresh quiet 0o00101)).map
    (fun t => (t.pc, t.streams.consoleOut.written, t.tty.ttoReady)) = some (0o0202, [0o101], true) := by decide
/-- T20 -/
theorem test_tsfTls_t20 : (after (atTty 0o6047 { fresh with ttoReady := true } quiet 0o00101)).map
    (fun t => (t.pc, t.streams.consoleOut.written, t.tty.ttoReady, t.tty.ttoIntPending)) = some (0o0203, [0o101], true, false) := by decide
/-- R280 -/
theorem test_tsfTcf : (after (atTty 0o6043 { fresh with ttoReady := true } quiet)).map
    (fun t => (t.pc, t.tty.ttoReady)) = some (0o0203, false) := by decide
/-- T21 -/
theorem test_ksfKcc_t21 : (after (atTty 0o6033 { fresh with ttiReady := true } quiet)).map
    (fun t => (t.pc, t.tty.ttiReady, t.tty.ttiReaderRun)) = some (0o0203, false, true) := by decide
/-- T22 -/
theorem test_ksfKrs_t22 : (after (atTty 0o6035 { fresh with ttiReady := true, ttiBuffer := 0o102 } quiet)).map
    (fun t => (t.pc, t.lac)) = some (0o0203, 0o00302) := by decide
/-- R274 -/
theorem test_ksfKrb : (after (atTty 0o6037 { fresh with ttiReady := true, ttiBuffer := 0o102 } quiet 0o11234)).map
    (fun t => (t.pc, t.lac, t.tty.ttiReady)) = some (0o0203, 0o10302, false) := by decide
/-- T23 -/
theorem test_tti0_t23 : (after (atTty 0o6030 fresh (console [.byte 0o101]) 0o12345)).map
    (fun t => (t.pc, t.lac, t.tty.ttiReady)) = some (0o0202, 0o12345, true) := by decide
/-- T23 -/
theorem test_tto0_t23 : (after (atTty 0o6040 fresh (console [.byte 0o101]) 0o12345)).map
    (fun t => (t.pc, t.lac, t.tty.ttiReady)) = some (0o0202, 0o12345, true) := by decide
/-- T24 -/
theorem test_read_error_t24 : faultOf (atTty 0o6031 fresh (console [.error 9])) = some (.ioRead 9 0o0202) := by decide
/-- T25 -/
theorem test_write_error_t25 :
    faultOf (atTty 0o6044 fresh { Streams.constructed with consoleOut := { written := [], answers := [.error 9] } }) =
      some (.ioWrite 9 0o0202) := by decide
/-- R302: a failed iot performs no skip, so 0o6045 and 0o6047 with TTO_READY set leave PC at the address after the IOT. -/
theorem test_write_error_skips_nothing_r302 :
    [0o6045, 0o6047].map (fun w => faultOf (atTty w { fresh with ttoReady := true }
      { Streams.constructed with consoleOut := { written := [], answers := [.error 9] } })) =
      [some (.ioWrite 9 0o0202), some (.ioWrite 9 0o0202)] := by decide
/-- R341, R346: a Teletype built over a console output that answers an error, on an empty bus, then registered. -/
theorem test_construct_teletype_r346 :
    ∃ s, registerDevice .teletype (constructTeletype [.byte 0o101] { written := [], answers := [.error 9] } State.constructed) = .next s ∧
      s.devices = [.teletype] ∧ s.tty = fresh ∧ s.streams.tape = none ∧ s.streams.punch = none ∧
      exec .tpc (setPC 5 s) = .fault (.ioWrite 9 5) := ⟨_, rfl, by decide, by decide, by decide, by decide, rfl⟩
/-- T26 -/
theorem test_readerAttach_t26 :
    (readerAttach [.byte 1] { State.reset with tty := { fresh with readerPos := 7, ttiReaderEof := true } }).tty = fresh := by decide
/-- The rows TTI and TTO run the micro-ops their bits select: KSF-KCC and TSF-TCF as T21 and R280 -/
theorem test_generic_rows :
    (match exec (.tti true true false) (atTty 0 { fresh with ttiReady := true } quiet) with
      | .next t => some (t.pc, t.tty.ttiReady) | .fault _ => none | .refused _ => none) = some (0o0202, false) ∧
    (match exec (.tto true true false) (atTty 0 { fresh with ttoReady := true } quiet) with
      | .next t => some (t.pc, t.tty.ttoReady) | .fault _ => none | .refused _ => none) = some (0o0202, false) := by decide

/-! ## Interrupts (L2.8) -/

/-- IN1 -/
theorem test_interrupt_in1 :
    (after { at_ 0o0203 0o7000 with ien := true, tty := { fresh with ttoReady := true } }).map
      (fun t => (t.memRead 0, t.pc, t.ien, t.ionPending)) = some (0o0204, 1, false, false) := by decide
/-- IN3 -/
theorem test_no_interrupt_in3 :
    (after { at_ 0o0203 0o7000 with tty := { fresh with ttoReady := true } }).map
      (fun t => (t.memRead 0, t.pc, t.tty.ttoIntPending)) = some (0, 0o0204, false) := by decide
/-- IN5, the HLT -/
theorem test_hlt_promotes_without_poll_in5 :
    (after { at_ 0o0203 0o7402 with ionPending := true, tty := { fresh with ttoReady := true } }).map
      (fun t => (t.ien, t.pc, t.signal)) = some (true, 0o0204, .halt) := by decide
/-- IN6 -/
theorem test_interrupt_after_ion_in6 :
    (after { at_ 0o0203 0o6001 with ien := true, tty := { fresh with ttoReady := true } }).map
      (fun t => (t.memRead 0, t.pc, t.ien, t.ionPending)) = some (0o0204, 1, false, false) := by decide
/-- IN7 -/
theorem test_interrupt_after_jms_in7 :
    (after { (at_ 0o0300 0o4710).memWrite 0o0310 0o0500 with ien := true, tty := { fresh with ttoReady := true } }).map
      (fun t => (t.memRead 0, t.memRead 0o500)) = some (0o0501, 0o0301) := by decide
/-- IN8 -/
theorem test_interrupt_after_skip_in8 :
    (after { (at_ 0o0300 0o2100).memWrite 0o100 0o7777 with ien := true, tty := { fresh with ttoReady := true } }).map
      (fun t => t.memRead 0) = some 0o0302 := by decide

/-! ## Run and host operations (L2.9, R346) -/

/-- RL1 -/
theorem test_run_zero_rl1 : endOf (run 0 (setPC 0o200 State.reset)) = some (0, 0o200, .cont) := by decide
/-- The budget counts the HLT (R152, RL3's last step) -/
theorem test_run_hlt : endOf (run 1 { at_ 0o0204 0o7402 with pcSet := true }) = some (0, 0o0205, .halt) := by decide
/-- U13 -/
theorem test_run_before_setPC : endOf (run 1 State.reset) = none := by decide
/-- R346: addresses modulo 4096, words masked -/
theorem test_loadImage_wraps :
    ((loadImage 0o7777 [0o17402, 5] State.reset).memRead 0o7777, (loadImage 0o7777 [0o17402, 5] State.reset).memRead 0) =
      (0o7402, 5) := by decide
/-- The word placed for the host runs as the first instruction after reset -/
theorem test_withFetchWord : (after (State.reset.withFetchWord 16 0o7001)).map (·.lac) = some 1 := by decide

/-! ## Witnesses: for each statement with hypotheses, a state and operands that meet them, clause by clause, at the edges -/

theorem witness_DecodeOfEncodeIsIdentity :
    wellFormed (.jmp true true 0o177) = true ∧ wellFormed (.iotUnclaimed 0o77 7) = true ∧
    wellFormed (.opr1 true true true true true .rtr) = true ∧ wellFormed (.opr3 false false false false 7) = true := by decide

theorem witness_DecodePicksMostSpecificRow :
    ((0o7000, 0o7400) : Word × Word) ∈ tableRows ∧ (0o7200 : Word) &&& 0o7400 = 0o7000 := by decide

theorem witness_StepRunsDecodedInstruction : decode ((at_ 0o7777 0o7402).memRead (at_ 0o7777 0o7402).pc) = .hlt := by decide

theorem witness_EndOfIterationOrder :
    ({ State.reset with signal := .halt } : State).signal = .halt ∧
    (State.reset.signal ≠ .halt ∧ State.reset.ien = false) ∧
    (State.reset.signal ≠ .halt ∧ ({ State.reset with ien := true } : State).ien = true) := by decide

theorem witness_PageStepAddress :
    (at_ 0o0400 0).params.pageBase = .instructionAddress ∧
    ({ at_ 0o0400 0 with params := { Params.default with pageBase := .incrementedPc } } : State).params.pageBase = .incrementedPc := by
  decide

/-- The pointer at 0o0007, 0o0010, 0o0017 and 0o0020. -/
theorem witness_IndirectAddressAutoIndexes :
    (State.reset.directAddr false 0o007).toNat < 8 ∧
    (8 ≤ (State.reset.directAddr false 0o010).toNat ∧ (State.reset.directAddr false 0o010).toNat ≤ 15) ∧
    (8 ≤ (State.reset.directAddr false 0o017).toNat ∧ (State.reset.directAddr false 0o017).toNat ≤ 15) ∧
    15 < (State.reset.directAddr false 0o020).toNat := by decide

/-- MriMemoryFrame speaks of some word: one neither stored to nor the auto-indexed pointer. -/
theorem witness_MriMemoryFrame :
    (some 0o0011 : Option Word) ≠ some 0o0012 ∧ (0o0012 : Word) ≠ State.reset.directAddr false 0o010 := by decide

theorem witness_InstructionsStayInTheirState :
    isMri .nop = false ∧ hasMql .nop = false ∧ busSelector .nop = none ∧ Instr.nop ≠ .iof ∧ Instr.nop ≠ .ion ∧
    ∃ t, exec .nop State.reset = .next t := ⟨rfl, rfl, rfl, by decide, by decide, _, rfl⟩

theorem witness_Group1Sequence :
    State.reset.params.undefRotate = .noop ∧
    ({ State.reset with params := { Params.default with undefRotate := .refuse } } : State).params.undefRotate = .refuse := by decide

theorem witness_Group3Sequence :
    State.reset.params.group3Extra = .ignore ∧
    (({ State.reset with params := { Params.default with group3Extra := .refuse } } : State).params.group3Extra = .refuse ∧
      (7 : BitVec 3) ≠ 0) := by decide

theorem witness_IenRisesOnlyAfterIon :
    (∃ t, step { at_ 0o0203 0o7000 with ionPending := true } = .next t ∧ t.ien = true) ∧
    (∃ t, step (at_ 0o0203 0o6001) = .next t ∧ t.ionPending = true) := ⟨⟨_, rfl, by decide⟩, ⟨_, rfl, by decide⟩⟩

theorem witness_IonTakesEffectOneInstructionLate :
    (let s := at_ 0o0203 0o6001
     s.ien = false ∧ s.tty.exitRequest = false ∧ s.ionPending = false ∧ s.memRead s.pc = 0o6001) ∧
    (let s : State := { at_ 0o0203 0o7000 with ionPending := true, tty := { fresh with ttoReady := true } }
     s.ien = false ∧ s.tty.exitRequest = false ∧ s.ionPending = true ∧ s.memRead s.pc = 0o7000 ∧
     s.devices = [.teletype] ∧ s.pollGoesWell = true ∧
     ∃ u, s.poll = .next u ∧ (u.tty.ttiIntPending || u.tty.ttoIntPending) = true) ∧
    (let s : State := { at_ 0o0203 0o7000 with ionPending := true }
     s.pollGoesWell = true ∧ ∃ u, s.poll = .next u ∧ (u.tty.ttiIntPending || u.tty.ttoIntPending) = false) :=
  ⟨by decide, ⟨by decide, by decide, by decide, by decide, by decide, by decide, _, rfl, by decide⟩,
    ⟨by decide, _, rfl, by decide⟩⟩

theorem witness_UnclaimedSelectorDoesNothing :
    busSelector (.iotUnclaimed 0o77 7) = some 0o77 ∧ State.reset.deviceFor 0o77 = none ∧
    busSelector .ksf = some 3 ∧ State.constructed.deviceFor 3 = none := by decide

theorem witness_OtherDeviceAnswerIsMaskedIn :
    let s : State := { State.reset with
      devices := [.teletype, .other [0o10]]
      streams := { Streams.constructed with iotAnswers := [{ pc := 4096, lac := 8192, err := none }] } }
    let u : State := { s with streams := { Streams.constructed with iotAnswers := [{ pc := 1, lac := 1, err := some 2 }] } }
    busSelector (.iotUnclaimed 0o10 1) = some 0o10 ∧ s.deviceFor 0o10 = some (.other [0o10]) ∧
    s.streams.iotAnswers = { pc := 4096, lac := 8192, err := none } :: [] ∧
    u.deviceFor 0o10 = some (.other [0o10]) ∧ u.streams.iotAnswers = { pc := 1, lac := 1, err := some 2 } :: [] := by decide

theorem witness_PollTakesOneByte :
    (let s := atTty 0 { fresh with ttiReaderActive := true, ttiReaderRun := true } (onTape [.byte 0x1C])
     s.tty.ttiReaderActive = true ∧ s.tty.ttiReaderRun = true ∧ s.streams.tape = some (.byte 0x1C :: [])) ∧
    (let s := atTty 0 fresh (console [.byte 0x1C])
     s.tty.ttiReaderActive = false ∧ s.tty.ttiReady = false ∧ s.streams.consoleIn = .byte 0x1C :: []) := by decide

theorem witness_PollWithoutByte :
    (let t : Teletype := { fresh with ttiReaderActive := true }; t.ttiReaderActive = true ∧ t.ttiReaderRun = false) ∧
    (let t : Teletype := { fresh with ttiReady := true }; t.ttiReaderActive = false ∧ t.ttiReady = true) ∧
    (let t : Teletype := { fresh with ttiReaderActive := true, ttiReaderRun := true }
     t.ttiReaderActive = true ∧ t.ttiReaderRun = true ∧
     (onTape []).tape = some [] ∧ (onTape [.nothing]).tape = some (.nothing :: []) ∧
     (onTape [.error 1]).tape = some (.error 1 :: []) ∧ quiet.tape = none) ∧
    (fresh.ttiReaderActive = false ∧ fresh.ttiReady = false ∧ quiet.consoleIn = [] ∧
     (console [.nothing]).consoleIn = .nothing :: [] ∧ (console [.eof]).consoleIn = .eof :: [] ∧
     (console [.error 1]).consoleIn = .error 1 :: []) := by decide

theorem witness_KsfSkipsOnKeyboardFlag :
    (State.reset.deviceFor 3 = some .teletype ∧ State.reset.pollGoesWell = true) ∧
    ((atTty 0 fresh (console [.error 1])).deviceFor 3 = some .teletype ∧
      ∃ f, (atTty 0 fresh (console [.error 1])).poll = .fault f) := ⟨by decide, by decide, _, rfl⟩

theorem witness_InputSideResults : State.reset.deviceFor 3 = some .teletype ∧ State.reset.pollGoesWell = true := by decide

theorem witness_PrinterFlagTestAndClear :
    (State.reset.deviceFor 4 = some .teletype ∧ State.reset.pollGoesWell = true) ∧
    ((atTty 0 fresh (console [.error 1])).deviceFor 4 = some .teletype ∧
      ∃ f, (atTty 0 fresh (console [.error 1])).poll = .fault f) := ⟨by decide, by decide, _, rfl⟩

theorem witness_OutputWordsWithoutTpc :
    State.reset.deviceFor 4 = some .teletype ∧ State.reset.pollGoesWell = true := by decide

theorem witness_OutputWordsWithTpc :
    (State.reset.deviceFor 4 = some .teletype ∧ State.reset.pollGoesWell = true ∧ State.reset.writeGoesWell = true) ∧
    (let s := atTty 0 { fresh with ttoPunchActive := true } { Streams.constructed with punch := some { written := [], answers := [.ok] } }
     s.deviceFor 4 = some .teletype ∧ s.pollGoesWell = true ∧ s.writeGoesWell = true) ∧
    ((Instr.tsfTls, true, true) : Instr × Bool × Bool) ∈
      [(Instr.tpc, false, false), (.tls, false, true), (.tsfTpc, true, false), (.tsfTls, true, true), (.tto true true true, true, true)] := by
  decide

theorem witness_TeletypeErrorsEndTheRun :
    (busSelector .tls = some 4 ∧ (atTty 0 fresh (console [.error 1])).deviceFor 4 = some .teletype ∧
      ∃ f, (atTty 0 fresh (console [.error 1])).poll = .fault f) ∧
    (let s := atTty 0 fresh { Streams.constructed with consoleOut := { written := [], answers := [.error 9] } }
     hasTpc .tls = true ∧ s.deviceFor 4 = some .teletype ∧ s.pollGoesWell = true ∧
     s.currentSink = some { written := [], answers := .error 9 :: [] }) ∧
    (let s := atTty 0 { fresh with ttoReady := true } { Streams.constructed with consoleOut := { written := [], answers := [.error 9] } }
     hasTpc .tsfTls = true ∧ hasTpc (.tto true false true) = true ∧ busSelector .tsfTls = some 4 ∧ s.tty.ttoReady = true ∧
     s.deviceFor 4 = some .teletype ∧ s.pollGoesWell = true ∧
     s.currentSink = some { written := [], answers := .error 9 :: [] } ∧ ∃ f, exec .tsfTls s = .fault f) :=
  ⟨⟨rfl, by decide, _, rfl⟩, by decide, by decide, by decide, by decide, by decide, by decide, by decide, by decide, _, rfl⟩

theorem witness_ReaderPosCountsTapeBytes :
    ∃ t, step (atTty 0o6031 { fresh with ttiReaderActive := true, ttiReaderRun := true } (onTape [.byte 0o101])) = .next t :=
  ⟨_, rfl⟩

theorem witness_PrinterFlagRisesOnlyByTpc :
    ∃ t, step (atTty 0o6044 fresh quiet) = .next t ∧ (atTty 0o6044 fresh quiet).tty.ttoReady = false ∧ t.tty.ttoReady = true :=
  ⟨_, rfl, by decide, by decide⟩

theorem witness_TeletypeInterruptIsLevel :
    (State.reset.pollGoesWell = true ∧ ∃ u, State.reset.poll = .next u ∧ (u.tty.ttiIntPending || u.tty.ttoIntPending) = false) ∧
    (let s := atTty 0 { fresh with ttoReady := true } quiet
     s.pollGoesWell = true ∧ ∃ u, s.poll = .next u ∧ (u.tty.ttiIntPending || u.tty.ttoIntPending) = true) :=
  ⟨⟨by decide, _, rfl, by decide⟩, ⟨by decide, _, rfl, by decide⟩⟩

theorem witness_FirstAssertingDeviceWins :
    (∃ t, registerDevice (.other [0o10]) State.reset = .next t) ∧
    (let s := atTty 0 { fresh with ttoReady := true } quiet
     ∃ u v, noneAsserts [.other [0o10]] s = some u ∧ Device.teletype.query u = .answer v true) :=
  ⟨⟨_, rfl⟩, ⟨_, _, rfl, rfl⟩⟩

theorem witness_RunBudgetAccounting :
    ((setPC 0 State.reset).pcSet = true ∧ State.reset.pcSet = false) ∧
    (∃ k t, runLoop 1 (at_ 0o0204 0o7402) = .halted k t) ∧
    (∃ k t, runLoop 1 (atTty 0o6031 fresh (console [.byte 0x1C])) = .exit k t) ∧
    (∃ k f, runLoop 1 (atTty 0o6031 fresh (console [.error 1])) = .error k f) ∧
    (∃ t, runLoop 1 (at_ 0o0204 0o7000) = .exhausted t) :=
  ⟨by decide, ⟨_, _, rfl⟩, ⟨_, _, rfl⟩, ⟨_, _, rfl⟩, ⟨_, rfl⟩⟩

theorem witness_HltEndsRunWithBudgetLeft :
    ({ at_ 0o7777 0o7402 with pcSet := true } : State).pcSet = true ∧ (at_ 0o7777 0o7402).memRead 0o7777 = 0o7402 := by decide

theorem witness_RegistrationConflict :
    (0 : Selector) ∈ (Device.other [0]).selectors ∧
    (∃ sel ∈ (Device.other [4]).selectors, sel ∈ State.reset.claimed) ∧
    ¬ ((0 : Selector) ∈ (Device.other [1, 0o77]).selectors ∨ ∃ sel ∈ (Device.other [1, 0o77]).selectors, sel ∈ State.reset.claimed) := by
  decide

theorem witness_LoadImageFillsConsecutiveWords :
    (List.replicate 2 0).length ≤ 4096 ∧ ∀ i < [5, 6].length, (0o7776 : Word) ≠ 0o7777 + BitVec.ofNat 12 i := by decide

theorem witness_TapeAndPunchOperations :
    (onTape []).tape ≠ none ∧ quiet.tape = none ∧ quiet.punch = none ∧
    ({ Streams.constructed with punch := some { written := [], answers := [] } } : Streams).punch ≠ none := by decide

theorem witness_StepKeepsInvariant : State.reset.Inv ∧ ∃ t, step State.reset = .next t := ⟨by decide, _, rfl⟩

theorem witness_EveryStepCompletesWithoutIoErrors :
    State.reset.Inv ∧ State.reset.params.undefRotate = .noop ∧ State.reset.params.group3Extra = .ignore ∧
    State.reset.streams.clean = true := by decide

theorem witness_FaultsAndRefusalsHaveTheirCause :
    (∃ f, exec .ksf (atTty 0 fresh (console [.error 1])) = .fault f) ∧
    (∃ r, exec (.opr1Rot014 false false false false false)
      { State.reset with params := { Params.default with undefRotate := .refuse } } = .refused r) ∧
    (∃ r, exec .tpc (atTty 0 { fresh with ttoPunchActive := true } quiet) = .refused r) :=
  ⟨⟨_, rfl⟩, ⟨_, rfl⟩, ⟨_, rfl⟩⟩

theorem witness_CanonicalMemoryIsDeterminedByReads :
    Memory.wf [(0, 1), (4095, 0o7777)] ∧ Memory.wf (Memory.write [(0, 1)] 4095 0o7777) := by decide

end Sys2Proof.Tests
end

section
/-! PROOFS. Family 10_state: what one execute rule can change, the invariant of the machine and its preservation, when IEN and
ION_PENDING can rise, and that canonical memory is determined by its reads (spec/10_state.md R38 to R46). -/

namespace Sys2Proof.Machine

/-! ## What an execute rule can change -/

/-- `t` is `s` but for PC, LAC, MQ and the signal. -/
abbrev RegistersOnly (s t : State) : Prop :=
  t = { s with pc := t.pc, lac := t.lac, mq := t.mq, signal := t.signal }

/-- What `exec i s` can leave when it goes on: the one family `i` belongs to, and that family's frame. -/
inductive ExecEffect (i : Instr) (s t : State) : Prop
  /-- a memory-reference instruction writes at most PC, LAC and memory, and keeps memory canonical (R144, R170 to R175) -/
  | memoryReference (hi : isMri i = true) (frame : t = { s with pc := t.pc, lac := t.lac, mem := t.mem })
      (wf : s.mem.wf → t.mem.wf)
  /-- an instruction that goes to the bus does what its dispatch does (R240, R246) -/
  | bus (sel : Selector) (fn : BitVec 3) (hi : busSelector i = some sel) (dispatch : busDispatch sel fn s = .next t)
  /-- ION sets the delay latch (R241) -/
  | ion (hi : i = .ion) (result : t = s.setIonPending true)
  /-- IOF clears the enable and the latch (R242) -/
  | iof (hi : i = .iof) (result : t = (s.setIen false).setIonPending false)
  /-- an operate instruction or an ignored selector-0 word writes at most PC, LAC, MQ and the signal (R190, R243) -/
  | registers (frame : RegistersOnly s t)

section Families

variable {s t : State}

theorem iotIgnored_frame (h : iotIgnored s = .next t) : RegistersOnly s t := by
  cases h; rfl

theorem runGroup1_frame {cla cll cma cml iac : Bool} {rot : Rotate} (h : runGroup1 cla cll cma cml iac rot s = .next t) :
    RegistersOnly s t := by
  rw [runGroup1_eq] at h; cases h; rfl

theorem runUndefRotate_frame {cla cll cma cml iac : Bool} (h : runUndefRotate cla cll cma cml iac s = .next t) :
    RegistersOnly s t := by
  unfold runUndefRotate at h
  split at h
  · exact runGroup1_frame h
  · exact nomatch h

theorem runGroup2_frame {cla sma sza snl rev osr hlt : Bool} (h : runGroup2 cla sma sza snl rev osr hlt s = .next t) :
    RegistersOnly s t := by
  rw [runGroup2_eq] at h; cases h; rfl

theorem runGroup3_frame {cla mqa mql : Bool} (h : runGroup3 cla mqa mql s = .next t) : RegistersOnly s t := by
  rw [runGroup3_eq] at h; cases h; rfl

theorem execOpr3_frame {cla mqa x040 mql : Bool} {x016 : BitVec 3} (h : execOpr3 cla mqa x040 mql x016 s = .next t) :
    RegistersOnly s t := by
  unfold execOpr3 at h
  split at h
  · exact nomatch h
  · exact runGroup3_frame h

end Families

/-- A memory-reference instruction changes at most PC, LAC and memory, which stays canonical. -/
theorem exec_memoryReference {i : Instr} {s t : State} (hi : isMri i = true) (h : exec i s = .next t) :
    t = { s with pc := t.pc, lac := t.lac, mem := t.mem } ∧ (s.mem.wf → t.mem.wf) := by
  cases i with
  | and ind page off | tad ind page off | jmp ind page off =>
    cases h
    exact ⟨by rw [afterAddress_frame]; rfl, fun hm => afterAddress_wf hm ind page off⟩
  | isz ind page off =>
    cases h
    exact ⟨by rw [afterAddress_frame]; unfold State.skipIf; split <;> rfl,
      fun hm => by rw [skipIf_mem]; exact memWrite_wf (afterAddress_wf hm ind page off) _ _⟩
  | dca ind page off | jms ind page off =>
    cases h
    exact ⟨by rw [afterAddress_frame]; rfl, fun hm => memWrite_wf (afterAddress_wf hm ind page off) _ _⟩
  | _ => exact nomatch hi

/-- What each instruction can do, said once for all of them: an execute rule that goes on has the effect of its family. -/
theorem exec_effect {i : Instr} {s t : State} (h : exec i s = .next t) : ExecEffect i s t := by
  cases i with
  | and | tad | isz | dca | jms | jmp =>
    obtain ⟨frame, wf⟩ := exec_memoryReference rfl h
    exact .memoryReference rfl frame wf
  | ion => cases h; exact .ion rfl rfl
  | iof => cases h; exact .iof rfl rfl
  | iot00 | iot03 | iot04 | iot05 | iot06 | iot07 => exact .registers (iotIgnored_frame h)
  | ksf | kcc | krs | krb | tti0 | ksfKcc | ksfKrs | ksfKrb | tti => exact .bus 3 _ rfl h
  | tsf | tcf | tpc | tls | tto0 | tsfTcf | tsfTpc | tsfTls | tto => exact .bus 4 _ rfl h
  | iotUnclaimed sel fn => exact .bus sel fn rfl h
  | cla1 | cll | cma | cml | iac | rar | ral | rtr | rtl | bsw | nop | cia | stl | sta | glk | claCll | opr1 =>
    exact .registers (runGroup1_frame h)
  | opr1Rot014 | opr1Rot016 => exact .registers (runUndefRotate_frame h)
  | sma | sza | snl | spa | sna | szl | skp | cla2 | osr | hlt | opr2Nop | las | opr2 =>
    exact .registers (runGroup2_frame h)
  | cla3 | mqa | mql | swp | opr3Nop | cam | acl => exact .registers (runGroup3_frame h)
  | opr3 => exact .registers (execOpr3_frame h)

/-! ## When IEN and ION_PENDING rise (R38, R39) -/

/-- No execute rule raises IEN, and ION alone sets ION_PENDING. -/
theorem exec_enables {i : Instr} {s t : State} (h : exec i s = .next t) :
    (t.ien = true → s.ien = true) ∧ (t.ionPending = true → s.ionPending = true ∨ i = .ion) := by
  cases exec_effect h with
  | memoryReference _ frame _ => rw [frame]; exact ⟨id, .inl⟩
  | bus sel fn _ dispatch => rw [busDispatch_frame dispatch]; exact ⟨id, .inl⟩
  | ion hi result => rw [result]; exact ⟨id, fun _ => .inr hi⟩
  | iof _ result => rw [result]; exact ⟨nofun, nofun⟩
  | registers frame => rw [frame]; exact ⟨id, .inl⟩

/-- Asking the devices raises neither enable: it keeps both, or enters an interrupt, which clears both. -/
theorem interruptPoll_enables {ds : List Device} {s t : State} (h : interruptPoll ds s = .next t) :
    (t.ien = true → s.ien = true) ∧ (t.ionPending = true → s.ionPending = true) := by
  obtain ⟨u, hu, rfl | rfl⟩ := interruptPoll_cases h
  · rw [hu]; exact ⟨id, id⟩
  · exact ⟨nofun, nofun⟩

/-- After the promotion the end of an iteration raises neither enable. -/
theorem endIteration_enables {p : Bool} {s t : State} (h : s.endIteration p = .next t) :
    (t.ien = true → (s.promote p).ien = true) ∧ (t.ionPending = true → (s.promote p).ionPending = true) := by
  obtain ⟨-, rfl⟩ | ⟨-, -, rfl⟩ | ⟨-, -, u, hu, rfl⟩ := endIteration_cases h
  · exact ⟨id, id⟩
  · rw [takeExit_ien, takeExit_ionPending]; exact ⟨id, id⟩
  · rw [takeExit_ien, takeExit_ionPending]; exact interruptPoll_enables hu

/-- Settles O30: the enables rise by ION and by the promotion alone. A promotion needs ION_PENDING set before the step, and it
clears whatever was pending then, so only the ION of this very step can leave it set. -/
theorem ienRisesOnlyAfterIon : Obligations.IenRisesOnlyAfterIon := by
  unfold Obligations.IenRisesOnlyAfterIon
  intro s t h
  obtain ⟨u, hexec, hend⟩ := step_cases h
  obtain ⟨hien, hpending⟩ := exec_enables hexec
  obtain ⟨tien, tpending⟩ := endIteration_enables hend
  simp only [promote_ien, promote_ionPending, Bool.or_eq_true, Bool.and_eq_true, Bool.not_eq_true'] at tien tpending
  constructor
  · intro ht
    exact (tien ht).imp hien fun hp => hp.1
  · intro ht
    obtain ⟨hclear, hset⟩ := tpending ht
    have hs : s.fetch.ionPending ≠ true := by simp [hclear]
    exact (hpending hset).resolve_left hs

/-! ## The invariant (R44, R46, R248, R282, R313) -/

/-- The clauses of the invariant on the Teletype and its streams, but for the exit request. -/
structure State.PeripheralSound (s : State) : Prop where
  readyOrArmed : s.tty.ReadyOrArmed
  requestsFollow : s.tty.RequestsFollowFlags
  attached : s.StartedAreAttached

/-- The part of the invariant that holds inside an iteration too: all but the clause on the exit request, which a poll may raise
before the end of the iteration takes it. -/
structure State.Sound (s : State) : Prop where
  mem : s.mem.wf
  peripheral : s.PeripheralSound
  bus : s.BusSound

theorem inv_iff_sound {s : State} : s.Inv ↔ s.Sound ∧ s.tty.exitRequest = false := by
  constructor
  · rintro ⟨hm, hr, hf, he, ha, hb⟩
    exact ⟨⟨hm, ⟨hr, hf, ha⟩, hb⟩, he⟩
  · rintro ⟨⟨hm, ⟨hr, hf, ha⟩, hb⟩, he⟩
    exact ⟨hm, hr, hf, he, ha, hb⟩

section Rules

variable {s t : State}

/-- A state with the same Teletype and streams is as sound on them. -/
theorem State.PeripheralSound.congr (hs : s.PeripheralSound) (htty : t.tty = s.tty) (hstreams : t.streams = s.streams) :
    t.PeripheralSound :=
  ⟨htty ▸ hs.readyOrArmed, htty ▸ hs.requestsFollow, by
    unfold State.StartedAreAttached; rw [htty, hstreams]; exact hs.attached⟩

/-- Streams may move on as long as a tape and a punch stay attached. -/
theorem State.PeripheralSound.setStreams (hs : s.PeripheralSound) {h : Streams}
    (htape : h.tape.isSome = s.streams.tape.isSome) (hpunch : h.punch.isSome = s.streams.punch.isSome) :
    (s.setStreams h).PeripheralSound :=
  ⟨hs.readyOrArmed, hs.requestsFollow, by
    unfold State.StartedAreAttached; rw [setStreams_tty, setStreams_streams, htape, hpunch]; exact hs.attached⟩

/-- The Teletype's flags may change within their two rules as long as its source and its sink stay the same. -/
theorem State.PeripheralSound.setTty (hs : s.PeripheralSound) {y : Teletype} (hready : y.ReadyOrArmed)
    (hfollow : y.RequestsFollowFlags) (hreader : y.ttiReaderActive = s.tty.ttiReaderActive)
    (hpunch : y.ttoPunchActive = s.tty.ttoPunchActive) : (s.setTty y).PeripheralSound :=
  ⟨hready, hfollow, by
    unfold State.StartedAreAttached; rw [setTty_tty, setTty_streams, hreader, hpunch]; exact hs.attached⟩

theorem busSound_congr (hs : s.BusSound) (hdevices : t.devices = s.devices) : t.BusSound := by
  unfold State.BusSound State.claimed; rw [hdevices]; exact hs

/-- Soundness depends on memory, Teletype, streams and device list alone. -/
theorem State.Sound.congr (hs : s.Sound) (hmem : t.mem.wf) (htty : t.tty = s.tty) (hstreams : t.streams = s.streams)
    (hdevices : t.devices = s.devices) : t.Sound :=
  ⟨hmem, hs.peripheral.congr htty hstreams, busSound_congr hs.bus hdevices⟩

/-- A device keeps soundness if it keeps that of the Teletype and its streams: it reaches no memory and no device list. -/
theorem State.Sound.ofDevice (hs : s.Sound)
    (frame : t = { s with pc := t.pc, lac := t.lac, tty := t.tty, streams := t.streams }) (ht : t.PeripheralSound) :
    t.Sound := by
  have hmem : t.mem = s.mem := by rw [frame]
  have hdevices : t.devices = s.devices := by rw [frame]
  exact ⟨hmem ▸ hs.mem, ht, busSound_congr hs.bus hdevices⟩

/-! ### The poll -/

/-- A read of the current source detaches nothing. -/
theorem readSource_attached {a : ReadAnswer} {h : Streams} (hr : s.readSource = some (a, h)) :
    h.tape.isSome = s.streams.tape.isSome ∧ h.punch.isSome = s.streams.punch.isSome := by
  unfold State.readSource at hr
  split at hr
  · split at hr
    · exact nomatch hr
    · rename_i items htape; cases hr; exact ⟨by rw [htape]; rfl, rfl⟩
  · cases hr; exact ⟨rfl, rfl⟩

theorem pollInput_peripheralSound (hs : s.PeripheralSound) (h : s.pollInput = .next t) : t.PeripheralSound := by
  have hread {a : ReadAnswer} {k : Streams} (hr : s.readSource = some (a, k)) : (s.setStreams k).PeripheralSound :=
    hs.setStreams (readSource_attached hr).1 (readSource_attached hr).2
  unfold State.pollInput at h
  split at h
  · split at h
    · exact nomatch h
    · rename_i b k hr
      cases h
      exact (hread hr).setTty (by simp [Teletype.accept]) ⟨rfl, hs.requestsFollow.2⟩ rfl rfl
    · rename_i k hr
      cases h
      exact hread hr
    · rename_i k hr
      cases h
      exact (hread hr).setTty hs.readyOrArmed hs.requestsFollow rfl rfl
    · exact nomatch h
  · cases h; exact hs

theorem pollOutput_peripheralSound (hs : s.PeripheralSound) : s.pollOutput.PeripheralSound := by
  unfold State.pollOutput
  split
  · rename_i hready
    exact hs.setTty hs.readyOrArmed ⟨hs.requestsFollow.1, fun _ => hready⟩ rfl rfl
  · exact hs

theorem poll_peripheralSound (hs : s.PeripheralSound) (h : s.poll = .next t) : t.PeripheralSound := by
  unfold State.poll at h
  split at h
  · rename_i u hu
    cases h
    exact pollOutput_peripheralSound (pollInput_peripheralSound hs hu)
  all_goals exact nomatch h

/-! ### The micro-ops -/

theorem opIf_peripheralSound {f : State → State} (hf : ∀ u : State, u.PeripheralSound → (f u).PeripheralSound) (b : Bool)
    (hs : s.PeripheralSound) : (opIf b f s).PeripheralSound := by
  cases b
  · exact hs
  · exact hf s hs

theorem skipIf_peripheralSound (c : Bool) (hs : s.PeripheralSound) : (s.skipIf c).PeripheralSound :=
  hs.congr (skipIf_tty s c) (skipIf_streams s c)

theorem ksf_peripheralSound (hs : s.PeripheralSound) : s.ksf.PeripheralSound := skipIf_peripheralSound _ hs

theorem kcc_peripheralSound (hs : s.PeripheralSound) : s.kcc.PeripheralSound := by
  have hlac : (s.setLac (lacCla s.lac)).PeripheralSound := hs.congr rfl rfl
  exact hlac.setTty (by simp) ⟨rfl, hs.requestsFollow.2⟩ rfl rfl

theorem krs_peripheralSound (hs : s.PeripheralSound) : s.krs.PeripheralSound := hs.congr rfl rfl

theorem tcf_peripheralSound (hs : s.PeripheralSound) : s.tcf.PeripheralSound :=
  hs.setTty hs.readyOrArmed ⟨hs.requestsFollow.1, nofun⟩ rfl rfl

theorem tpc_peripheralSound (hs : s.PeripheralSound) (h : s.tpc = .next t) : t.PeripheralSound := by
  have hdone {k : Streams} (htape : k.tape = s.streams.tape) (hpunch : k.punch.isSome = s.streams.punch.isSome) :
      ((s.setStreams k).setTty { s.tty with ttoReady := true }).PeripheralSound :=
    (hs.setStreams (congrArg _ htape) hpunch).setTty hs.readyOrArmed ⟨hs.requestsFollow.1, fun _ => rfl⟩ rfl rfl
  unfold State.tpc at h
  split at h
  · split at h
    · exact nomatch h
    · rename_i o hpunch
      split at h
      · cases h; exact hdone rfl (by rw [hpunch]; rfl)
      · exact nomatch h
  · split at h
    · cases h; exact hdone rfl rfl
    · exact nomatch h

theorem ttyInput_peripheralSound (b1 b2 b4 : Bool) (hs : s.PeripheralSound) : (s.ttyInput b1 b2 b4).PeripheralSound :=
  opIf_peripheralSound (fun _ hu => krs_peripheralSound hu) b4 <|
    opIf_peripheralSound (fun _ hu => kcc_peripheralSound hu) b2 <|
      opIf_peripheralSound (fun _ hu => ksf_peripheralSound hu) b1 hs

theorem ttyOutputOps_peripheralSound {b2 b4 : Bool} (hs : s.PeripheralSound) (h : s.ttyOutputOps b2 b4 = .next t) :
    t.PeripheralSound := by
  have htcf : (opIf b2 State.tcf s).PeripheralSound := opIf_peripheralSound (fun _ hu => tcf_peripheralSound hu) b2 hs
  unfold State.ttyOutputOps at h
  split at h
  · exact tpc_peripheralSound htcf h
  · cases h; exact htcf

theorem ttyOutput_peripheralSound {b1 b2 b4 : Bool} (hs : s.PeripheralSound) (h : s.ttyOutput b1 b2 b4 = .next t) :
    t.PeripheralSound := by
  unfold State.ttyOutput at h
  split at h
  · rename_i u hu
    cases h
    exact skipIf_peripheralSound _ (ttyOutputOps_peripheralSound hs hu)
  all_goals exact nomatch h

/-! ### The bus -/

theorem ttyIot_peripheralSound {sel : Selector} {fn : BitVec 3} (hs : s.PeripheralSound) (h : ttyIot sel fn s = .next t) :
    t.PeripheralSound := by
  unfold ttyIot at h
  split at h
  · rename_i u hu
    have hpoll := poll_peripheralSound hs hu
    split at h
    · cases h; exact ttyInput_peripheralSound _ _ _ hpoll
    · split at h
      · exact ttyOutput_peripheralSound hpoll h
      · cases h; exact hpoll
  all_goals exact nomatch h

theorem otherIot_peripheralSound (hs : s.PeripheralSound) (h : otherIot s = .next t) : t.PeripheralSound := by
  unfold otherIot at h
  split at h
  · cases h; exact hs
  · rename_i a rest _
    simp only at h
    have hregs : ((s.setPc (BitVec.ofNat 12 a.pc)).setLac (BitVec.ofNat 13 a.lac)).PeripheralSound := hs.congr rfl rfl
    split at h
    · cases h; exact hregs.setStreams rfl rfl
    · exact nomatch h

theorem busDispatch_sound {sel : Selector} {fn : BitVec 3} (hs : s.Sound) (h : busDispatch sel fn s = .next t) : t.Sound := by
  refine hs.ofDevice (busDispatch_frame h) ?_
  unfold busDispatch at h
  split at h
  · cases h; exact hs.peripheral
  · exact ttyIot_peripheralSound hs.peripheral h
  · exact otherIot_peripheralSound hs.peripheral h

theorem query_peripheralSound {d : Device} {r : Bool} (hs : s.PeripheralSound) (h : d.query s = .answer t r) :
    t.PeripheralSound := by
  unfold Device.query at h
  split at h
  · split at h
    · rename_i u hu; cases h; exact poll_peripheralSound hs hu
    all_goals exact nomatch h
  · split at h
    · cases h; exact hs
    · cases h; exact hs.setStreams rfl rfl
    · cases h; exact hs.setStreams rfl rfl
    · exact nomatch h

theorem query_sound {d : Device} {r : Bool} (hs : s.Sound) (h : d.query s = .answer t r) : t.Sound :=
  hs.ofDevice (by rw [query_frame h]) (query_peripheralSound hs.peripheral h)

end Rules

/-- What every query and an interrupt entry keep, the interrupt poll keeps. -/
theorem interruptPoll_preserves {P : State → Prop}
    (hquery : ∀ (d : Device) (s t : State) (r : Bool), d.query s = .answer t r → P s → P t)
    (henter : ∀ s : State, P s → P s.enterInterrupt) {ds : List Device} {s t : State}
    (h : interruptPoll ds s = .next t) (hs : P s) : P t := by
  induction ds generalizing s with
  | nil => cases h; exact hs
  | cons d ds ih =>
    unfold interruptPoll at h
    split at h
    · rename_i u hq; cases h; exact henter u (hquery d s u true hq hs)
    · rename_i u hq; exact ih h (hquery d s u false hq hs)
    all_goals exact nomatch h

theorem enterInterrupt_sound {s : State} (hs : s.Sound) : s.enterInterrupt.Sound :=
  hs.congr (enterInterrupt_wf hs.mem) rfl rfl rfl

theorem interruptPoll_sound {ds : List Device} {s t : State} (hs : s.Sound) (h : interruptPoll ds s = .next t) : t.Sound :=
  interruptPoll_preserves (P := State.Sound) (fun _ _ _ _ hq hu => query_sound hu hq) (fun _ hu => enterInterrupt_sound hu) h hs

/-! ### The step -/

theorem fetch_sound {s : State} (hs : s.Sound) : s.fetch.Sound := hs.congr hs.mem rfl rfl rfl

theorem promote_sound {s : State} (p : Bool) (hs : s.Sound) : (s.promote p).Sound :=
  hs.congr (by rw [promote_mem]; exact hs.mem) (promote_tty s p) (promote_streams s p) (promote_devices s p)

/-- Taking the exit request closes the gap between soundness and the invariant. -/
theorem takeExit_inv {s : State} (hs : s.Sound) : s.takeExit.Inv := by
  obtain ⟨hm, ⟨hr, hf, ha⟩, hb⟩ := hs
  unfold State.Inv State.StartedAreAttached State.BusSound State.claimed
  simp only [takeExit_mem, takeExit_tty, takeExit_streams, takeExit_devices]
  exact ⟨hm, hr, hf, trivial, ha, hb⟩

/-- An execute rule keeps soundness: memory by its writes, the Teletype by its micro-ops, the rest by the family's frame. -/
theorem exec_sound {i : Instr} {s t : State} (hs : s.Sound) (h : exec i s = .next t) : t.Sound := by
  cases exec_effect h with
  | memoryReference _ frame wf =>
    exact hs.congr (wf hs.mem) (by rw [frame]) (by rw [frame]) (by rw [frame])
  | bus sel fn _ dispatch => exact busDispatch_sound hs dispatch
  | ion _ result => rw [result]; exact hs.congr hs.mem rfl rfl rfl
  | iof _ result => rw [result]; exact hs.congr hs.mem rfl rfl rfl
  | registers frame => rw [frame]; exact hs.congr hs.mem rfl rfl rfl

/-- Only a device IOT reaches the Teletype, and it never ends in a halt: a rule that halts raised no exit request. -/
theorem exec_halt_keeps_tty {i : Instr} {s t : State} (h : exec i s = .next t) (hs : s.signal ≠ .halt)
    (ht : t.signal = .halt) : t.tty = s.tty := by
  cases exec_effect h with
  | memoryReference _ frame _ => rw [frame]
  | bus sel fn _ dispatch =>
    have hsignal : t.signal = s.signal := by rw [busDispatch_frame dispatch]
    exact absurd (hsignal ▸ ht) hs
  | ion _ result => rw [result, setIonPending_tty]
  | iof _ result => rw [result, setIonPending_tty, setIen_tty]
  | registers frame => rw [frame]

/-- The end of an iteration establishes the invariant of a sound state, provided a halt finds no exit request standing. -/
theorem endIteration_inv {p : Bool} {s t : State} (hs : s.Sound) (hexit : s.signal = .halt → s.tty.exitRequest = false)
    (h : s.endIteration p = .next t) : t.Inv := by
  have hp : (s.promote p).Sound := promote_sound p hs
  obtain ⟨hhalt, rfl⟩ | ⟨-, -, rfl⟩ | ⟨-, -, u, hu, rfl⟩ := endIteration_cases h
  · exact inv_iff_sound.2 ⟨hp, by rw [promote_tty]; exact hexit hhalt⟩
  · exact takeExit_inv hp
  · exact takeExit_inv (interruptPoll_sound hp hu)

/-- Settles O49: fetch and the execute rule keep all of the invariant but the clause on the exit request; the end of the
iteration takes the request, or halts, and then no device ran that could have raised it. -/
theorem stepKeepsInvariant : Obligations.StepKeepsInvariant := by
  unfold Obligations.StepKeepsInvariant
  intro s t hinv h
  obtain ⟨hs, hexit⟩ := inv_iff_sound.1 hinv
  obtain ⟨u, hexec, hend⟩ := step_cases h
  refine endIteration_inv (exec_sound (fetch_sound hs) hexec) (fun hhalt => ?_) hend
  have htty : u.tty = s.fetch.tty := exec_halt_keeps_tty hexec (by simp) hhalt
  rw [htty, fetch_tty, hexit]

/-! ## Construction and reset (R45, R340, R341) -/

theorem registerDevice_teletype_constructed : registerDevice .teletype State.constructed = .next State.reset := rfl

theorem reset_inv : State.reset.Inv :=
  inv_iff_sound.2 ⟨⟨reset_wf, ⟨by decide, by decide, by decide⟩, by decide⟩, rfl⟩

/-- Settles O54: the values are those `State.constructed` is defined with. -/
theorem resetValuesAndInvariant : Obligations.ResetValuesAndInvariant := by
  unfold Obligations.ResetValuesAndInvariant
  exact ⟨rfl, rfl, rfl, rfl, rfl, rfl, rfl, rfl, rfl, rfl, rfl, rfl, rfl, rfl, rfl,
    registerDevice_teletype_constructed, reset_inv⟩

/-! ## Canonical memory (R41, R74) -/

/-- A listed cell is what its address reads as, since no other cell has that address. -/
theorem read_of_mem {m : Memory} (h : m.Pairwise (fun c d => c.1 < d.1)) {c : Cell} (hc : c ∈ m) : m.read c.1 = c.2 := by
  induction m with
  | nil => exact nomatch hc
  | cons e m ih =>
    obtain ⟨he, hm⟩ := List.pairwise_cons.1 h
    rw [read_cons]
    rcases List.mem_cons.1 hc with rfl | hc
    · exact if_pos rfl
    · rw [if_neg (he c hc).ne, ih hm hc]

/-- A canonical memory lists exactly the words that differ from what an unlisted address reads as. -/
theorem mem_iff_read {m : Memory} (h : m.wf) {c : Cell} :
    c ∈ m ↔ c.1 < 4096 ∧ m.read c.1 = c.2 ∧ c.2 ≠ unlistedWord := by
  constructor
  · intro hc
    exact ⟨(h.2 c hc).1, read_of_mem h.1 hc, (h.2 c hc).2⟩
  · rintro ⟨-, hread, hne⟩
    have hlisted : ∃ d ∈ m, d.1 = c.1 := by
      by_contra hnone
      push Not at hnone
      exact hne (hread ▸ read_of_notMem hnone)
    obtain ⟨d, hd, haddr⟩ := hlisted
    have hword : d.2 = c.2 := by rw [← read_of_mem h.1 hd, haddr, hread]
    exact Prod.ext haddr hword ▸ hd

/-- Settles O51: equal reads give equal sets of cells, and a strictly sorted list is determined by its members. -/
theorem canonicalMemoryIsDeterminedByReads : Obligations.CanonicalMemoryIsDeterminedByReads := by
  unfold Obligations.CanonicalMemoryIsDeterminedByReads
  intro m n hm hn hread
  have hirrefl : Std.Irrefl (fun c d : Cell => c.1 < d.1) := ⟨fun c => lt_irrefl c.1⟩
  have hantisymm : Std.Antisymm (fun c d : Cell => c.1 < d.1) := ⟨fun _ _ hcd hdc => absurd hcd hdc.asymm⟩
  refine hm.1.eq_of_mem_iff hn.1 fun c => ?_
  rw [mem_iff_read hm, mem_iff_read hn]
  exact and_congr_right fun hc => by rw [hread c.1 hc]

end Sys2Proof.Machine
end

section
/-! PROOFS. Family 20_memory: the parts of the state an execute rule leaves alone (spec/20_memory.md R76; 10_state.md R32 to R39). -/

namespace Sys2Proof.Machine

/-! ## What keeps MQ (R32) -/

section KeepsMq

variable {s t : State}

theorem runGroup1_keeps_mq {cla cll cma cml iac : Bool} {rot : Rotate} (h : runGroup1 cla cll cma cml iac rot s = .next t) :
    t.mq = s.mq := by
  rw [runGroup1_eq] at h; cases h; rfl

theorem runUndefRotate_keeps_mq {cla cll cma cml iac : Bool} (h : runUndefRotate cla cll cma cml iac s = .next t) :
    t.mq = s.mq := by
  unfold runUndefRotate at h
  split at h
  · exact runGroup1_keeps_mq h
  · exact nomatch h

theorem runGroup2_keeps_mq {cla sma sza snl rev osr hlt : Bool} (h : runGroup2 cla sma sza snl rev osr hlt s = .next t) :
    t.mq = s.mq := by
  rw [runGroup2_eq] at h; cases h; rfl

/-- The group-3 sequence writes MQ only where its MQL bit is set (R218, R220). -/
theorem runGroup3_keeps_mq {cla mqa : Bool} (h : runGroup3 cla mqa false s = .next t) : t.mq = s.mq := by
  rw [runGroup3_eq] at h; cases h; rfl

theorem execOpr3_keeps_mq {cla mqa x040 : Bool} {x016 : BitVec 3} (h : execOpr3 cla mqa x040 false x016 s = .next t) :
    t.mq = s.mq := by
  unfold execOpr3 at h
  split at h
  · exact nomatch h
  · exact runGroup3_keeps_mq h

theorem busDispatch_keeps_mq {sel : Selector} {fn : BitVec 3} (h : busDispatch sel fn s = .next t) : t.mq = s.mq := by
  rw [busDispatch_frame h]

end KeepsMq

/-- Only the micro-op MQL writes MQ: outside group 3 no execute rule reaches it, and within group 3 the MQL bit decides. -/
theorem exec_keeps_mq {i : Instr} {s t : State} (hi : hasMql i = false) (h : exec i s = .next t) : t.mq = s.mq := by
  cases i with
  | and | tad | isz | dca | jms | jmp => rw [(exec_memoryReference rfl h).1]
  | ion | iof | iot00 | iot03 | iot04 | iot05 | iot06 | iot07 => cases h; rfl
  | ksf | kcc | krs | krb | tti0 | ksfKcc | ksfKrs | ksfKrb | tti | tsf | tcf | tpc | tls | tto0 | tsfTcf | tsfTpc | tsfTls
  | tto | iotUnclaimed => exact busDispatch_keeps_mq h
  | cla1 | cll | cma | cml | iac | rar | ral | rtr | rtl | bsw | nop | cia | stl | sta | glk | claCll | opr1 =>
    exact runGroup1_keeps_mq h
  | opr1Rot014 | opr1Rot016 => exact runUndefRotate_keeps_mq h
  | sma | sza | snl | spa | sna | szl | skp | cla2 | osr | hlt | opr2Nop | las | opr2 => exact runGroup2_keeps_mq h
  | cla3 | mqa | opr3Nop | acl => exact runGroup3_keeps_mq h
  | mql | swp | cam => exact nomatch hi
  | opr3 cla mqa x040 mql x016 =>
    have hbit : mql = false := hi
    subst hbit
    exact execOpr3_keeps_mq h

/-! ## The frame of every instruction (R76, R144) -/

/-- Settles O57: the frame of the instruction's family bounds what it writes. Where a family may write a guarded part, the guard
excludes the instruction from the family; MQ, which the operate family leaves open, is `exec_keeps_mq`. -/
theorem instructionsStayInTheirState : Obligations.InstructionsStayInTheirState := by
  unfold Obligations.InstructionsStayInTheirState
  intro i s t h
  have hmq : hasMql i = false → t.mq = s.mq := fun hi => exec_keeps_mq hi h
  cases exec_effect h with
  | memoryReference hi frame _ =>
    have hmem : isMri i = false → t.mem = s.mem := fun hno => absurd hi (ne_true_of_eq_false hno)
    rw [frame]
    exact ⟨rfl, rfl, rfl, rfl, rfl, hmem, fun _ => rfl, fun _ => rfl, fun _ _ => rfl, fun _ => ⟨rfl, rfl⟩⟩
  | bus sel fn hi dispatch =>
    have hdevice : busSelector i = none → t.tty = s.tty ∧ t.streams = s.streams := fun hno => nomatch hi.symm.trans hno
    rw [busDispatch_frame dispatch]
    exact ⟨rfl, rfl, rfl, rfl, rfl, fun _ => rfl, fun _ => rfl, fun _ => rfl, fun _ _ => rfl, hdevice⟩
  | ion hi result =>
    rw [result]
    exact ⟨rfl, rfl, rfl, rfl, rfl, fun _ => rfl, fun _ => rfl, fun _ => rfl, fun hno => absurd hi hno, fun _ => ⟨rfl, rfl⟩⟩
  | iof hi result =>
    rw [result]
    exact ⟨rfl, rfl, rfl, rfl, rfl, fun _ => rfl, fun _ => rfl, fun hno => absurd hi hno, fun _ hno => absurd hi hno,
      fun _ => ⟨rfl, rfl⟩⟩
  | registers frame =>
    rw [frame]
    exact ⟨rfl, rfl, rfl, rfl, rfl, fun _ => rfl, hmq, fun _ => rfl, fun _ _ => rfl, fun _ => ⟨rfl, rfl⟩⟩

end Sys2Proof.Machine
end

section
/-! PROOFS. Family 30_encoding: encoding gives a decoded word back, and the decoder picks the most specific row of the opcode
table (spec/30_encoding.md R100 to R117). A field of a word is the word under a mask, so an encoder fed with the fields of `w`
is a union of masked copies of `w`. -/

namespace Sys2Proof.Machine

/-! ## Fields are masked words (R100) -/

/-- The bit `k` of a word, put back at its place. -/
theorem bit_getLsbD (w : Word) (k : Nat) (m : Word) (hm : m = BitVec.twoPow 12 k) : bit (w.getLsbD k) m = w &&& m := by
  rw [hm, BitVec.and_twoPow]; rfl

/-- The field of `n` bits from bit `k`, put back at its place. -/
theorem zeroExtend_extractLsb'_shiftLeft (w : Word) (k n : Nat) {m : Word}
    (hm : m = (BitVec.allOnes n).zeroExtend 12 <<< k) : (w.extractLsb' k n).zeroExtend 12 <<< k = w &&& m := by
  subst hm
  refine BitVec.eq_of_getLsbD_eq fun i hi => ?_
  by_cases hk : i < k
  · simp [hk]
  · have hpos : k + (i - k) = i := by omega
    simp [hk, hpos, Bool.and_comm, Bool.and_left_comm, Bool.and_assoc]

/-- A field known by its value fixes the word under the field's mask. -/
theorem and_mask_of_field {w : Word} {k n v : Nat} (h : (w.extractLsb' k n).toNat = v) {m : Word}
    (hm : m = (BitVec.allOnes n).zeroExtend 12 <<< k) : w &&& m = BitVec.ofNat 12 v <<< k := by
  rw [← zeroExtend_extractLsb'_shiftLeft w k n hm, ← h, BitVec.ofNat_toNat]

theorem toNat_eq_seven {f : BitVec 3} (h0 : f.toNat ≠ 0) (h1 : f.toNat ≠ 1) (h2 : f.toNat ≠ 2) (h3 : f.toNat ≠ 3)
    (h4 : f.toNat ≠ 4) (h5 : f.toNat ≠ 5) (h6 : f.toNat ≠ 6) : f.toNat = 7 := by
  omega

/-- A word is what it holds under a mask and under a complementary one. -/
theorem or_and_of_and_eq {w m n b : Word} (h : w &&& m = b) (hmn : m ||| n = BitVec.allOnes 12) : b ||| (w &&& n) = w := by
  rw [← h, ← BitVec.and_or_distrib_left, hmn, BitVec.and_allOnes]

theorem or_and_and (w b m n : Word) : b ||| (w &&& m) ||| (w &&& n) = b ||| (w &&& (m ||| n)) := by
  rw [BitVec.or_assoc, BitVec.and_or_distrib_left]

/-! ## The encoders on the fields of a word (R102 to R109) -/

theorem encodeMri_fields (w base : Word) :
    encodeMri base (w.getLsbD 8) (w.getLsbD 7) (w.extractLsb' 0 7) = base ||| (w &&& 0o777) := by
  have hoff : (w.extractLsb' 0 7).zeroExtend 12 = w &&& 0o177 :=
    (BitVec.shiftLeft_zero _).symm.trans (zeroExtend_extractLsb'_shiftLeft w 0 7 rfl)
  rw [encodeMri, bit_getLsbD w 8 0o400 rfl, bit_getLsbD w 7 0o200 rfl, hoff, or_and_and, or_and_and]
  rfl

theorem encodeIot_fields (w : Word) : encodeIot (selectorField w) (fnField w) = 0o6000 ||| (w &&& 0o777) := by
  have hsel : (selectorField w).zeroExtend 12 <<< 3 = w &&& 0o770 := zeroExtend_extractLsb'_shiftLeft w 3 6 rfl
  have hfn : (fnField w).zeroExtend 12 = w &&& 0o007 :=
    (BitVec.shiftLeft_zero _).symm.trans (zeroExtend_extractLsb'_shiftLeft w 0 3 rfl)
  rw [encodeIot, hsel, hfn, or_and_and]
  rfl

theorem encodeTty_fields (w base : Word) :
    encodeTty base (w.getLsbD 0) (w.getLsbD 1) (w.getLsbD 2) = base ||| (w &&& 0o007) := by
  rw [encodeTty, bit_getLsbD w 0 0o001 rfl, bit_getLsbD w 1 0o002 rfl, bit_getLsbD w 2 0o004 rfl, or_and_and, or_and_and]
  rfl

theorem encodeGroup1_fields (w rot : Word) :
    encodeGroup1 (w.getLsbD 7) (w.getLsbD 6) (w.getLsbD 5) (w.getLsbD 4) (w.getLsbD 0) rot =
      0o7000 ||| rot ||| (w &&& 0o361) := by
  rw [encodeGroup1, bit_getLsbD w 7 0o200 rfl, bit_getLsbD w 6 0o100 rfl, bit_getLsbD w 5 0o040 rfl,
    bit_getLsbD w 4 0o020 rfl, bit_getLsbD w 0 0o001 rfl,
    or_and_and, or_and_and, or_and_and, BitVec.or_assoc 0o7000, BitVec.or_comm _ rot, ← BitVec.or_assoc, or_and_and]
  rfl

theorem encodeGroup2_fields (w : Word) :
    encodeGroup2 (w.getLsbD 7) (w.getLsbD 6) (w.getLsbD 5) (w.getLsbD 4) (w.getLsbD 3) (w.getLsbD 2) (w.getLsbD 1) =
      0o7400 ||| (w &&& 0o376) := by
  rw [encodeGroup2, bit_getLsbD w 7 0o200 rfl, bit_getLsbD w 6 0o100 rfl, bit_getLsbD w 5 0o040 rfl,
    bit_getLsbD w 4 0o020 rfl, bit_getLsbD w 3 0o010 rfl, bit_getLsbD w 2 0o004 rfl,
    bit_getLsbD w 1 0o002 rfl]
  simp only [or_and_and]
  rfl

theorem encodeGroup3_fields (w : Word) :
    encodeGroup3 (w.getLsbD 7) (w.getLsbD 6) (w.getLsbD 5) (w.getLsbD 4) (w.extractLsb' 1 3) =
      0o7401 ||| (w &&& 0o376) := by
  have hx : (w.extractLsb' 1 3).zeroExtend 12 <<< 1 = w &&& 0o016 := zeroExtend_extractLsb'_shiftLeft w 1 3 rfl
  rw [encodeGroup3, bit_getLsbD w 7 0o200 rfl, bit_getLsbD w 6 0o100 rfl, bit_getLsbD w 5 0o040 rfl,
    bit_getLsbD w 4 0o020 rfl, hx]
  simp only [or_and_and]
  rfl

/-! ## Exact rows and generic rows (R117) -/

/-- The reading `i` of the word `w` is well-formed and encodes to `w`. -/
def RoundTrips (w : Word) (i : Instr) : Prop := wellFormed i = true ∧ encode i = w

/-- `i` may be ill-formed only where its word is that of an exact row. -/
def WellFormedUnlessExact (rows : List (Word × Instr)) (i : Instr) : Prop :=
  wellFormed i = true ∨ encode i ∈ rows.map Prod.fst

/-- A lookup among exact rows before a generic reading answers a row of the word, or no row has the word. -/
theorem orExact_cases (rows : List (Word × Instr)) (w : Word) (i : Instr) :
    (w, orExact rows w i) ∈ rows ∨ (w ∉ rows.map Prod.fst ∧ orExact rows w i = i) := by
  unfold orExact
  cases hl : rows.lookup w with
  | some j =>
    obtain ⟨before, after, rfl, -⟩ := List.lookup_eq_some_iff.1 hl
    exact .inl (by simp)
  | none =>
    refine .inr ⟨fun hw => ?_, rfl⟩
    obtain ⟨r, hr, rfl⟩ := List.mem_map.1 hw
    simpa using List.lookup_eq_none_iff.1 hl r hr

/-- Exact rows that round-trip and a generic reading that is ill-formed only for their words round-trip together. -/
theorem orExact_roundTrips {rows : List (Word × Instr)} {w : Word} {i : Instr} (hrows : ∀ r ∈ rows, RoundTrips r.1 r.2)
    (hi : WellFormedUnlessExact rows i) (hw : encode i = w) : RoundTrips w (orExact rows w i) := by
  obtain hmem | ⟨hnone, heq⟩ := orExact_cases rows w i
  · exact hrows _ hmem
  · rw [heq]
    exact ⟨hi.resolve_right (hw ▸ hnone), hw⟩

theorem exactIot_roundTrips : ∀ r ∈ exactIot, RoundTrips r.1 r.2 := by unfold RoundTrips; decide
theorem exactGroup1_roundTrips : ∀ r ∈ exactGroup1, RoundTrips r.1 r.2 := by unfold RoundTrips; decide
theorem exactGroup2_roundTrips : ∀ r ∈ exactGroup2, RoundTrips r.1 r.2 := by unfold RoundTrips; decide
theorem exactGroup3_roundTrips : ∀ r ∈ exactGroup3, RoundTrips r.1 r.2 := by unfold RoundTrips; decide

theorem wellFormed_iotUnclaimed (sel : Selector) (fn : BitVec 3) :
    wellFormed (.iotUnclaimed sel fn) = (sel != 0 && sel != 3 && sel != 4) := rfl

theorem wellFormed_opr1 (cla cll cma cml iac : Bool) (rot : Rotate) :
    wellFormed (.opr1 cla cll cma cml iac rot) = !namedGroup1.contains (cla, cll, cma, cml, iac, rot) := rfl

theorem wellFormed_opr2 (cla sma sza snl rev osr hlt : Bool) :
    wellFormed (.opr2 cla sma sza snl rev osr hlt) = !namedGroup2.contains (cla, sma, sza, snl, rev, osr, hlt) := rfl

theorem wellFormed_opr3 (cla mqa x040 mql : Bool) (x016 : BitVec 3) :
    wellFormed (.opr3 cla mqa x040 mql x016) = (x040 || x016 != 0 || !namedGroup3.contains (cla, mqa, mql)) := rfl

theorem tti_unlessExact (b1 b2 b4 : Bool) : WellFormedUnlessExact exactIot (.tti b1 b2 b4) :=
  .inr (by revert b1 b2 b4; decide)

theorem tto_unlessExact (b1 b2 b4 : Bool) : WellFormedUnlessExact exactIot (.tto b1 b2 b4) :=
  .inr (by revert b1 b2 b4; decide)

/-- Of the IOT words only those on selector 0 and the two Teletype selectors are exact rows. -/
theorem iotUnclaimed_unlessExact {sel : Selector} (fn : BitVec 3) (h3 : sel ≠ 3) (h4 : sel ≠ 4) :
    WellFormedUnlessExact exactIot (.iotUnclaimed sel fn) := by
  have hrow : ∀ fn : BitVec 3, encode (.iotUnclaimed 0 fn) ∈ exactIot.map Prod.fst := by decide
  by_cases h0 : sel = 0
  · exact .inr (h0 ▸ hrow fn)
  · exact .inl (by simp_all [wellFormed_iotUnclaimed])

theorem opr1_unlessExact (cla cll cma cml iac : Bool) (rot : Rotate) :
    WellFormedUnlessExact exactGroup1 (.opr1 cla cll cma cml iac rot) := by
  have hrow : ∀ f ∈ namedGroup1,
      encode (.opr1 f.1 f.2.1 f.2.2.1 f.2.2.2.1 f.2.2.2.2.1 f.2.2.2.2.2) ∈ exactGroup1.map Prod.fst :=
    List.all_iff_forall_prop.1 (by decide)
  by_cases hnamed : (cla, cll, cma, cml, iac, rot) ∈ namedGroup1
  · exact .inr (hrow (cla, cll, cma, cml, iac, rot) hnamed)
  · exact .inl (by simpa [wellFormed_opr1] using hnamed)

theorem opr2_unlessExact (cla sma sza snl rev osr hlt : Bool) :
    WellFormedUnlessExact exactGroup2 (.opr2 cla sma sza snl rev osr hlt) := by
  have hrow : ∀ f ∈ namedGroup2,
      encode (.opr2 f.1 f.2.1 f.2.2.1 f.2.2.2.1 f.2.2.2.2.1 f.2.2.2.2.2.1 f.2.2.2.2.2.2) ∈ exactGroup2.map Prod.fst :=
    List.all_iff_forall_prop.1 (by decide)
  by_cases hnamed : (cla, sma, sza, snl, rev, osr, hlt) ∈ namedGroup2
  · exact .inr (hrow (cla, sma, sza, snl, rev, osr, hlt) hnamed)
  · exact .inl (by simpa [wellFormed_opr2] using hnamed)

theorem opr3_unlessExact (cla mqa x040 mql : Bool) (x016 : BitVec 3) :
    WellFormedUnlessExact exactGroup3 (.opr3 cla mqa x040 mql x016) := by
  have hrow : ∀ f ∈ namedGroup3, encode (.opr3 f.1 f.2.1 false f.2.2 0) ∈ exactGroup3.map Prod.fst := by decide
  by_cases hnamed : x040 = false ∧ x016 = 0 ∧ (cla, mqa, mql) ∈ namedGroup3
  · obtain ⟨rfl, rfl, hmem⟩ := hnamed
    exact .inr (hrow (cla, mqa, mql) hmem)
  · exact .inl (by simpa [wellFormed_opr3, or_iff_not_imp_left] using hnamed)

/-! ## The families of the decoder -/

/-- A memory-reference word is its opcode and its fields (R102). -/
theorem encodeMri_fields_eq {w : Word} {v : Nat} (h : (opcodeField w).toNat = v) :
    encodeMri (BitVec.ofNat 12 v <<< 9) (w.getLsbD 8) (w.getLsbD 7) (w.extractLsb' 0 7) = w := by
  rw [encodeMri_fields]
  exact or_and_of_and_eq (m := 0o7000) (and_mask_of_field h rfl) rfl

/-- An IOT word, by its selector where a generic row has it (R103, R109). -/
theorem decodeIot_roundTrips {w : Word} (h : w &&& 0o7000 = 0o6000) :
    RoundTrips w (orExact exactIot w (decodeIotGeneric w)) := by
  have hsel (v : Selector) (hv : selectorField w = v) :
      w &&& (0o7770 : Word) = (0o6000 : Word) ||| BitVec.ofNat 12 v.toNat <<< 3 := by
    have h770 : w &&& (0o770 : Word) = BitVec.ofNat 12 v.toNat <<< 3 := and_mask_of_field (congrArg BitVec.toNat hv) rfl
    rw [← h, ← h770, ← BitVec.and_or_distrib_left]; rfl
  unfold decodeIotGeneric
  split
  · next h3 =>
    refine orExact_roundTrips exactIot_roundTrips (tti_unlessExact _ _ _) ?_
    rw [encode, encodeTty_fields]
    exact or_and_of_and_eq (hsel 3 h3) rfl
  · next h3 =>
    split
    · next h4 =>
      refine orExact_roundTrips exactIot_roundTrips (tto_unlessExact _ _ _) ?_
      rw [encode, encodeTty_fields]
      exact or_and_of_and_eq (hsel 4 h4) rfl
    · next h4 =>
      refine orExact_roundTrips exactIot_roundTrips (iotUnclaimed_unlessExact _ h3 h4) ?_
      rw [encode, encodeIot_fields]
      exact or_and_of_and_eq h rfl

/-- A group-1 word is its group, its rotate field and its micro-op bits (R104). -/
theorem encodeGroup1_fields_eq {w rot : Word} (h : w &&& 0o7400 = 0o7000) (hrot : w &&& 0o016 = rot) :
    encodeGroup1 (w.getLsbD 7) (w.getLsbD 6) (w.getLsbD 5) (w.getLsbD 4) (w.getLsbD 0) rot = w := by
  rw [encodeGroup1_fields]
  refine or_and_of_and_eq (m := 0o7416) ?_ rfl
  rw [← h, ← hrot, ← BitVec.and_or_distrib_left]; rfl

theorem decodeGroup1Generic_unlessExact (w : Word) : WellFormedUnlessExact exactGroup1 (decodeGroup1Generic w) := by
  unfold decodeGroup1Generic
  split
  case h_7 | h_8 => exact .inl rfl
  all_goals exact opr1_unlessExact ..

theorem encode_decodeGroup1Generic {w : Word} (h : w &&& 0o7400 = 0o7000) : encode (decodeGroup1Generic w) = w := by
  have hfield {v : Nat} (hv : (w.extractLsb' 1 3).toNat = v) : w &&& 0o016 = BitVec.ofNat 12 v <<< 1 :=
    and_mask_of_field hv rfl
  unfold decodeGroup1Generic
  split
  case h_8 h0 h1 h2 h3 h4 h5 h6 =>
    exact encodeGroup1_fields_eq h (hfield (toNat_eq_seven h0 h1 h2 h3 h4 h5 h6))
  all_goals
    next hv => exact encodeGroup1_fields_eq h (hfield hv)

/-- An OPR word, its group by bits 8 and 0 (R107). -/
theorem decodeOpr_roundTrips {w : Word} (h : w &&& 0o7000 = 0o7000) : RoundTrips w (decodeOpr w) := by
  have h8 : bit (w.getLsbD 8) 0o400 = w &&& 0o400 := bit_getLsbD w 8 0o400 rfl
  have h0 : bit (w.getLsbD 0) 0o001 = w &&& 0o001 := bit_getLsbD w 0 0o001 rfl
  have hgroup : w &&& 0o7400 = 0o7000 ||| bit (w.getLsbD 8) 0o400 := by
    rw [h8, ← h, ← BitVec.and_or_distrib_left]; rfl
  have hgroups : w &&& 0o7401 = 0o7000 ||| bit (w.getLsbD 8) 0o400 ||| bit (w.getLsbD 0) 0o001 := by
    rw [← hgroup, h0, ← BitVec.and_or_distrib_left]; rfl
  unfold decodeOpr
  split
  · next hb =>
    rw [hb] at hgroup
    exact orExact_roundTrips exactGroup1_roundTrips (decodeGroup1Generic_unlessExact w) (encode_decodeGroup1Generic hgroup)
  · next hb =>
    rw [Bool.eq_true_of_not_eq_false hb] at hgroups
    split
    · next hc =>
      rw [hc] at hgroups
      refine orExact_roundTrips exactGroup2_roundTrips (opr2_unlessExact ..) ?_
      exact (encodeGroup2_fields w).trans (or_and_of_and_eq hgroups rfl)
    · next hc =>
      rw [Bool.eq_true_of_not_eq_false hc] at hgroups
      refine orExact_roundTrips exactGroup3_roundTrips (opr3_unlessExact ..) ?_
      exact (encodeGroup3_fields w).trans (or_and_of_and_eq hgroups rfl)

theorem decode_roundTrips (w : Word) : RoundTrips w (decode w) := by
  have hopcode {v : Nat} (hv : (opcodeField w).toNat = v) : w &&& 0o7000 = BitVec.ofNat 12 v <<< 9 :=
    and_mask_of_field hv rfl
  unfold decode
  split
  case h_7 h6 => exact decodeIot_roundTrips (hopcode h6)
  case h_8 h0 h1 h2 h3 h4 h5 h6 =>
    exact decodeOpr_roundTrips (hopcode (toNat_eq_seven h0 h1 h2 h3 h4 h5 h6))
  all_goals
    next hv =>
      have henc := encodeMri_fields_eq hv
      exact ⟨rfl, henc⟩

/-- Settles O2: in each family the encoder gives the word back from its fields, and a generic reading is ill-formed only for the
word of an exact row, which the decoder looks up first. -/
theorem encodeOfDecodeIsIdentity : Obligations.EncodeOfDecodeIsIdentity := by
  unfold Obligations.EncodeOfDecodeIsIdentity
  exact decode_roundTrips

/-! ## The rows of the opcode table (R117) -/

theorem row_mem_tableRows (i : Instr) : (rowMatch i, rowMask i) ∈ tableRows := by
  cases i <;> exact List.contains_iff_mem.1 rfl

theorem encode_and_rowMask (i : Instr) : encode i &&& rowMask i = rowMatch i := by
  cases i with
  | and ind page off => exact Laws.TableRow.and ind page off
  | tad ind page off => exact Laws.TableRow.tad ind page off
  | isz ind page off => exact Laws.TableRow.isz ind page off
  | dca ind page off => exact Laws.TableRow.dca ind page off
  | jms ind page off => exact Laws.TableRow.jms ind page off
  | jmp ind page off => exact Laws.TableRow.jmp ind page off
  | tti b1 b2 b4 => exact Laws.TableRow.tti b1 b2 b4
  | tto b1 b2 b4 => exact Laws.TableRow.tto b1 b2 b4
  | iotUnclaimed sel fn => exact Laws.TableRow.iotUnclaimed sel fn
  | opr1Rot014 cla cll cma cml iac => exact Laws.TableRow.opr1Rot014 cla cll cma cml iac
  | opr1Rot016 cla cll cma cml iac => exact Laws.TableRow.opr1Rot016 cla cll cma cml iac
  | opr1 cla cll cma cml iac rot => exact Laws.TableRow.opr1 cla cll cma cml iac rot
  | opr2 cla sma sza snl rev osr hlt => exact Laws.TableRow.opr2 cla sma sza snl rev osr hlt
  | opr3 cla mqa x040 mql x016 => exact Laws.TableRow.opr3 cla mqa x040 mql x016
  | _ => rfl

/-- A word matches the row it decodes to: it is that row's own word. -/
theorem and_rowMask_decode (w : Word) : w &&& rowMask (decode w) = rowMatch (decode w) := by
  have hrow := encode_and_rowMask (decode w)
  rwa [(decode_roundTrips w).2] at hrow

/-! ## The row of a decoded word has every bit of each matching row -/

/-- The widest rows: the six memory-reference opcodes, IOT-UNCLAIMED, and the three OPR groups. -/
def widestRows : List (Word × Word) :=
  [ (0o0000, 0o7000), (0o1000, 0o7000), (0o2000, 0o7000), (0o3000, 0o7000), (0o4000, 0o7000), (0o5000, 0o7000),
    (0o6000, 0o7000), (0o7000, 0o7400), (0o7400, 0o7401), (0o7401, 0o7401) ]

/-- The rows that fix more bits than a widest row but not all: TTI, TTO, OPR1-ROT014 and OPR1-ROT016. -/
def refiningRows : List (Word × Word) := [(0o6030, 0o7770), (0o6040, 0o7770), (0o7014, 0o7416), (0o7016, 0o7416)]

theorem tableRows_kinds : ∀ r ∈ tableRows, r.2 = 0o7777 ∨ r ∈ widestRows ∨ r ∈ refiningRows :=
  List.all_iff_forall_prop.1 rfl

/-- The word of an exact row decodes to an exact row. -/
theorem rowMask_decode_exact : ∀ r ∈ tableRows, r.2 = 0o7777 → rowMask (decode r.1) = 0o7777 :=
  List.all_iff_forall_prop.1 (by decide)

/-- A widest row that shares a word with another row fixes no bit the other leaves free. -/
theorem rowMask_and_widest {q r : Word × Word} (hq : q ∈ tableRows) (hr : r ∈ widestRows)
    (hcommon : q.1 &&& r.2 = r.1 &&& q.2) : q.2 &&& r.2 = r.2 := by
  have hpairs :
      (tableRows.all fun q => widestRows.all fun r => q.1 &&& r.2 != r.1 &&& q.2 || q.2 &&& r.2 == r.2) = true := by decide
  have hpair := List.all_eq_true.1 (List.all_eq_true.1 hpairs q hq) r hr
  simpa [hcommon] using hpair

/-- The exact rows cover all eight words of TTI and of TTO. -/
theorem rowMask_decode_teletype {w base : Word} (hbase : base ∈ [0o6030, 0o6040]) (h : w &&& 0o7770 = base) :
    rowMask (decode w) = 0o7777 := by
  have hrow : ∀ base ∈ ([0o6030, 0o6040] : List Word), ∀ b1 b2 b4 : Bool,
      rowMask (decode (encodeTty base b1 b2 b4)) = 0o7777 := by decide
  have hw := (encodeTty_fields w base).trans (or_and_of_and_eq h rfl)
  exact hw ▸ hrow base hbase _ _ _

/-- A group-1 word with an undefined rotate field is no exact row's. -/
theorem rowMask_decode_undefRotate {w rot : Word} (hrot : rot ∈ [0o014, 0o016]) (h : w &&& 0o7416 = 0o7000 ||| rot) :
    rowMask (decode w) = 0o7416 := by
  have hrow : ∀ rot ∈ ([0o014, 0o016] : List Word), ∀ cla cll cma cml iac : Bool,
      rowMask (decode (encodeGroup1 cla cll cma cml iac rot)) = 0o7416 := by decide
  have hw := (encodeGroup1_fields w rot).trans (or_and_of_and_eq h rfl)
  exact hw ▸ hrow rot hrot _ _ _ _ _

theorem rowMask_decode_refining {w : Word} {r : Word × Word} (hr : r ∈ refiningRows) (h : w &&& r.2 = r.1) :
    rowMask (decode w) &&& r.2 = r.2 := by
  simp only [refiningRows, List.mem_cons, List.not_mem_nil, or_false] at hr
  obtain rfl | rfl | rfl | rfl := hr
  · rw [rowMask_decode_teletype (by decide) h]; rfl
  · rw [rowMask_decode_teletype (by decide) h]; rfl
  · rw [rowMask_decode_undefRotate (rot := 0o014) (by decide) h]; rfl
  · rw [rowMask_decode_undefRotate (rot := 0o016) (by decide) h]; rfl

/-- The row a word decodes to fixes every bit that a row matching the word fixes. -/
theorem rowMask_decode_and {w : Word} {r : Word × Word} (hr : r ∈ tableRows) (h : w &&& r.2 = r.1) :
    rowMask (decode w) &&& r.2 = r.2 := by
  obtain hexact | hwide | hrefining := tableRows_kinds r hr
  · have hw : r.1 = w := by rw [← h, hexact]; exact BitVec.and_allOnes
    rw [← hw, rowMask_decode_exact r hr hexact, hexact]
    rfl
  · refine rowMask_and_widest (row_mem_tableRows (decode w)) hwide ?_
    rw [← h, ← and_rowMask_decode w, BitVec.and_assoc, BitVec.and_assoc, BitVec.and_comm r.2]
  · exact rowMask_decode_refining hrefining h

/-- A mask with all the bits of another is that mask or has more bits. -/
theorem eq_or_bitCount_lt_of_and_eq {m n : Word} (h : n &&& m = m) : m = n ∨ bitCount m < bitCount n := by
  have hbits (k : Nat) (hk : m.getLsbD k = true) : n.getLsbD k = true := by
    rw [← h, BitVec.getLsbD_and, Bool.and_eq_true] at hk
    exact hk.1
  have hsub := List.monotone_filter_right (List.range 12) hbits
  refine hsub.length_le.lt_or_eq.symm.imp_left fun hlen => BitVec.eq_of_getLsbD_eq fun k hk => ?_
  have hmem : k ∈ (List.range 12).filter (m.getLsbD ·) ↔ k ∈ (List.range 12).filter (n.getLsbD ·) := by
    rw [hsub.eq_of_length hlen]
  simpa [hk] using hmem

/-- Settles O3: the mask of the decoded row includes the mask of every matching row, and two matching rows of one mask are one. -/
theorem decodePicksMostSpecificRow : Obligations.DecodePicksMostSpecificRow := by
  unfold Obligations.DecodePicksMostSpecificRow
  intro w
  refine ⟨row_mem_tableRows _, and_rowMask_decode w, fun r hr hmatch => ?_⟩
  refine (eq_or_bitCount_lt_of_and_eq (rowMask_decode_and hr hmatch)).imp_left fun hmask => Prod.ext ?_ hmask
  rw [← hmatch, hmask, and_rowMask_decode]

end Sys2Proof.Machine
end

section
/-! PROOFS. Family 40_cycle_and_addressing: the page step and the indirection of a memory reference, the budget of Run, what an
iteration does before and after its instruction, and the faults of a Teletype word (spec/40_cycle_and_addressing.md R141 to
R155). -/

namespace Sys2Proof.Machine

/-! ## The page step (R145, R146) -/

theorem directAddr_pageZero (s : State) (off : BitVec 7) : s.directAddr false off = off.zeroExtend 12 := rfl

theorem directAddr_currentPage (s : State) (off : BitVec 7) :
    s.directAddr true off = off.zeroExtend 12 ||| (s.pageBaseAddr &&& 0o7600) := rfl

theorem pageBaseAddr_instructionAddress {s : State} (h : s.params.pageBase = .instructionAddress) :
    s.pageBaseAddr = s.pc - 1 := by
  unfold State.pageBaseAddr; rw [h]; rfl

theorem pageBaseAddr_incrementedPc {s : State} (h : s.params.pageBase = .incrementedPc) : s.pageBaseAddr = s.pc := by
  unfold State.pageBaseAddr; rw [h]

theorem toNat_zeroExtend_offset (off : BitVec 7) : (off.zeroExtend 12).toNat = off.toNat :=
  BitVec.toNat_setWidth_of_le (by decide)

/-- The page of an address is its multiple of 128 (R108). -/
theorem toNat_and_pageMask (b : Word) : (b &&& 0o7600).toNat = 2 ^ 7 * (b.toNat / 128) := by
  have hmask : b &&& (0o7600 : Word) = b >>> 7 <<< 7 := (BitVec.shiftLeft_ushiftRight (x := b) (n := 7)).symm
  rw [hmask, BitVec.toNat_shiftLeft, BitVec.toNat_ushiftRight, Nat.shiftRight_eq_div_pow, Nat.shiftLeft_eq]
  omega

/-- An offset put on the page of an address: the two have no bit in common, so OR adds. -/
theorem toNat_offset_or_page (off : BitVec 7) (b : Word) :
    (off.zeroExtend 12 ||| (b &&& 0o7600)).toNat = off.toNat + 128 * (b.toNat / 128) := by
  rw [BitVec.or_comm, BitVec.toNat_or, toNat_and_pageMask, toNat_zeroExtend_offset,
    ← Nat.two_pow_add_eq_or_of_lt off.isLt, Nat.add_comm]

/-- Settles O8: the page step is the offset, alone or on the page that PAGE_BASE selects. -/
theorem pageStepAddress : Obligations.PageStepAddress := by
  unfold Obligations.PageStepAddress
  intro off s
  refine ⟨?_, fun h => ?_, fun h => ?_⟩
  · rw [directAddr_pageZero, toNat_zeroExtend_offset]
  · rw [directAddr_currentPage, toNat_offset_or_page, pageBaseAddr_instructionAddress h]
  · rw [directAddr_currentPage, toNat_offset_or_page, pageBaseAddr_incrementedPc h]

/-! ## Indirection (R147) -/

theorem isAutoIndex_iff {a : Word} : isAutoIndex a = true ↔ 8 ≤ a.toNat ∧ a.toNat ≤ 15 := by
  simp [isAutoIndex]

theorem afterAddress_autoIndex {s : State} {page : Bool} {off : BitVec 7} (h : isAutoIndex (s.directAddr page off) = true) :
    s.afterAddress true page off =
      s.memWrite (s.directAddr page off) (s.memRead (s.directAddr page off) + 1) := by
  simp [State.afterAddress, h]

theorem afterAddress_plainPointer {s : State} {page : Bool} {off : BitVec 7}
    (h : ¬ isAutoIndex (s.directAddr page off) = true) : s.afterAddress true page off = s := by
  simp [State.afterAddress, h]

theorem effAddr_indirect (s : State) (page : Bool) (off : BitVec 7) :
    s.effAddr true page off = (s.afterAddress true page off).memRead (s.directAddr page off) := rfl

/-- Settles O9: the pointer is written, with the incremented word, exactly where it is an auto-index location, and the word then
at the pointer is the EA. -/
theorem indirectAddressAutoIndexes : Obligations.IndirectAddressAutoIndexes := by
  unfold Obligations.IndirectAddressAutoIndexes
  intro page off s p s1
  refine ⟨⟨effAddr_direct s page off, afterAddress_direct s page off⟩, fun hp => ?_, fun hp => ?_⟩
  · have hs1 : s1 = s.memWrite p (s.memRead p + 1) := afterAddress_autoIndex (isAutoIndex_iff.2 hp)
    refine ⟨?_, effAddr_indirect s page off, fun a ha => ?_, afterAddress_frame s true page off⟩
    · rw [hs1, memRead_memWrite_same, BitVec.toNat_add]; rfl
    · rw [hs1, memRead_memWrite_other s _ ha]
  · have hplain : ¬ isAutoIndex p = true := by rw [isAutoIndex_iff]; omega
    have hs1 : s1 = s := afterAddress_plainPointer hplain
    exact ⟨hs1, (effAddr_indirect s page off).trans (congrArg (State.memRead · p) hs1)⟩

/-! ## The budget of Run (R150 to R152, R343) -/

/-- The budget that a run which halted, exited or failed did not use. -/
def RunResult.left : RunResult → Option Nat
  | .halted n _ | .exit n _ | .error n _ => some n
  | .exhausted _ | .refused _ => none

/-- One iteration of the loop, whatever the budget: it goes on, ends the run with the rest of the budget, or is refused. -/
theorem runLoop_succ_cases (s : State) :
    (∃ u, ∀ n, runLoop (n + 1) s = runLoop n u) ∨ (∀ n, (runLoop (n + 1) s).left = some n) ∨
      ∃ r, ∀ n, runLoop (n + 1) s = .refused r := by
  simp only [runLoop]
  cases step s with
  | next u =>
    cases hsignal : u.signal with
    | cont => exact .inl ⟨u, fun _ => by simp only [hsignal]⟩
    | halt | exit => exact .inr (.inl fun _ => by simp only [hsignal, RunResult.left])
  | fault f => exact .inr (.inl fun _ => rfl)
  | refused r => exact .inr (.inr ⟨r, fun _ => rfl⟩)

/-- A run that halted, exited or failed used at least one unit of its budget (R152, D7). -/
theorem left_runLoop_lt {m k : Nat} {s : State} (h : (runLoop m s).left = some k) : k < m := by
  induction m generalizing s with
  | zero => exact nomatch h
  | succ m ih =>
    obtain ⟨u, hgoes⟩ | hends | ⟨r, hrefused⟩ := runLoop_succ_cases s
    · rw [hgoes] at h
      exact (ih h).trans (Nat.lt_add_one _)
    · rw [hends] at h
      cases h
      exact Nat.lt_add_one _
    · rw [hrefused] at h
      exact nomatch h

/-- A run that used up its budget is continued by a further run from where it stands (R152, R345). -/
theorem runLoop_add_of_exhausted {m : Nat} (n : Nat) {s t : State} (h : runLoop m s = .exhausted t) :
    runLoop (m + n) s = runLoop n t := by
  induction m generalizing s with
  | zero => cases h; rw [Nat.zero_add]
  | succ m ih =>
    obtain ⟨u, hgoes⟩ | hends | ⟨r, hrefused⟩ := runLoop_succ_cases s
    · rw [hgoes] at h
      rw [Nat.add_right_comm, hgoes, ih h]
    · have hleft := hends m
      rw [h] at hleft
      exact nomatch hleft
    · rw [hrefused] at h
      exact nomatch h

theorem run_of_pcSet {s : State} (h : s.pcSet = true) (n : Nat) : run n s = runLoop n s := if_pos h

theorem run_of_pcNeverSet {s : State} (h : s.pcSet = false) (n : Nat) : run n s = .refused .pcNeverSet := by
  rw [run, h]; rfl

/-- Settles O53, by the two accounts of the loop's budget. -/
theorem runBudgetAccounting : Obligations.RunBudgetAccounting := by
  unfold Obligations.RunBudgetAccounting
  intro m n k v s t f
  refine ⟨fun hset => run_of_pcSet hset 0, fun hend => ?_, runLoop_add_of_exhausted n,
    fun hunset => run_of_pcNeverSet hunset n, rfl, BitVec.toNat_ofNat v 12⟩
  have hleft : (runLoop m s).left = some k := by
    obtain h | h | h := hend <;> rw [h] <;> rfl
  exact left_runLoop_lt hleft

/-! ## Fetch and the iteration (R141, R142, R151) -/

theorem fetch_eq (s : State) : s.fetch = { s with ir := s.memRead s.pc, pc := s.pc + 1, signal := .cont } := rfl

theorem fetched_eq (s : State) : s.fetched = decode (s.memRead s.pc) := rfl

theorem instrAddr_fetch (s : State) : s.fetch.instrAddr = s.pc := BitVec.add_sub_cancel s.pc 1

/-- Settles O6: fetch writes IR, PC and the signal, and IA steps back over the increment. -/
theorem fetchLoadsNextWord : Obligations.FetchLoadsNextWord := by
  unfold Obligations.FetchLoadsNextWord
  intro s
  exact ⟨fetch_ir s, BitVec.toNat_add s.pc 1, instrAddr_fetch s, fetch_eq s⟩

/-- Settles O5: it is the definition of the iteration, with the fetched instruction and state written out. -/
theorem stepRunsDecodedInstruction : Obligations.StepRunsDecodedInstruction := by
  unfold Obligations.StepRunsDecodedInstruction
  intro s i hi
  rw [← hi, ← fetched_eq, ← fetch_eq]
  rfl

/-! ## The end of an iteration (R151, R153) -/

theorem endIteration_of_halt {p : Bool} {s : State} (h : (s.promote p).signal = .halt) :
    s.endIteration p = .next (s.promote p) := if_pos h

theorem endIteration_of_disabled {p : Bool} {s : State} (h : (s.promote p).signal ≠ .halt)
    (hien : (s.promote p).ien = false) : s.endIteration p = .next (s.promote p).takeExit := by
  have hpoll : (s.promote p).pollIfEnabled = .next (s.promote p) := if_neg (ne_true_of_eq_false hien)
  exact (if_neg h).trans (by rw [hpoll])

theorem endIteration_of_enabled {p : Bool} {s : State} (h : (s.promote p).signal ≠ .halt)
    (hien : (s.promote p).ien = true) :
    s.endIteration p =
      match interruptPoll (s.promote p).devices (s.promote p) with
      | .next t => .next t.takeExit
      | .fault f => .fault f
      | .refused r => .refused r := by
  have hpoll : (s.promote p).pollIfEnabled = interruptPoll (s.promote p).devices (s.promote p) := if_pos hien
  rw [← hpoll]
  exact if_neg h

/-- Settles O7: the three ways an iteration ends, with the promotion and the exit request written out. -/
theorem endOfIterationOrder : Obligations.EndOfIterationOrder := by
  unfold Obligations.EndOfIterationOrder
  intro p s
  exact ⟨endIteration_of_halt, endIteration_of_disabled, endIteration_of_enabled⟩

/-! ## The faults of a Teletype word (R155, R261, R269, R276, R302) -/

/-- An instruction of the bus is dispatched with its selector and some operation field (R240, R246). -/
theorem exec_of_busSelector {i : Instr} {sel : Selector} (h : busSelector i = some sel) :
    ∃ fn, ∀ s, exec i s = busDispatch sel fn s := by
  cases i with
  | ksf | kcc | krs | krb | tti0 | ksfKcc | ksfKrs | ksfKrb | tti | tsf | tcf | tpc | tls | tto0 | tsfTcf | tsfTpc | tsfTls
  | tto | iotUnclaimed =>
    cases h
    exact ⟨_, fun _ => rfl⟩
  | _ => exact nomatch h

/-- A word with the micro-op TPC is dispatched to the output side with bit 0o4 set (R276, R279, R280). -/
theorem exec_of_hasTpc {i : Instr} (h : hasTpc i = true) :
    ∃ fn : BitVec 3, fn.getLsbD 2 = true ∧ ∀ s, exec i s = busDispatch 4 fn s := by
  cases i with
  | tpc | tls | tsfTpc | tsfTls => exact ⟨_, by decide, fun _ => rfl⟩
  | tto b1 b2 b4 =>
    have hbit : ∀ b1 b2 : Bool, (fnOf b1 b2 true).getLsbD 2 = true := by decide
    cases (h : b4 = true)
    exact ⟨fnOf b1 b2 true, hbit b1 b2, fun _ => rfl⟩
  | _ => exact nomatch h

section Teletype

variable {s t : State}

theorem busDispatch_teletype {sel : Selector} (h : s.deviceFor sel = some .teletype) (fn : BitVec 3) :
    busDispatch sel fn s = ttyIot sel fn s := by
  rw [busDispatch, h]

theorem ttyIot_of_poll_fault {f : Fault} (h : s.poll = .fault f) (sel : Selector) (fn : BitVec 3) :
    ttyIot sel fn s = .fault f := by
  rw [ttyIot, h]

theorem ttyIot_output (h : s.poll = .next t) (fn : BitVec 3) :
    ttyIot 4 fn s = t.ttyOutput (fn.getLsbD 0) (fn.getLsbD 1) (fn.getLsbD 2) := by
  rw [ttyIot, h]; rfl

/-! ### The poll -/

/-- Where a poll goes well and reads, its source is there and answers no error. -/
theorem exists_readSource_of_pollGoesWell (hwants : s.tty.wantsRead = true) (h : s.pollGoesWell = true) :
    ∃ a k, s.readSource = some (a, k) ∧ a.isError = false := by
  unfold State.pollGoesWell at h
  unfold State.readSource
  rw [hwants] at h
  cases hactive : s.tty.ttiReaderActive with
  | true =>
    cases htape : s.streams.tape with
    | none => rw [hactive, htape] at h; exact nomatch h
    | some items =>
      refine ⟨_, _, rfl, ?_⟩
      match items with
      | [] | .byte _ :: _ | .nothing :: _ => rfl
      | .error e :: rest => rw [hactive, htape] at h; exact nomatch h
  | false =>
    refine ⟨_, _, rfl, ?_⟩
    match hconsole : s.streams.consoleIn with
    | [] | .byte _ :: _ | .nothing :: _ | .eof :: _ => rfl
    | .error e :: rest => rw [hactive, hconsole] at h; exact nomatch h

theorem exists_pollInput_of_read {a : ReadAnswer} {k : Streams} (hr : s.readSource = some (a, k))
    (ha : a.isError = false) : ∃ t, s.pollInput = .next t := by
  unfold State.pollInput
  split
  · rw [hr]
    cases a with
    | byte | nothing | eof => exact ⟨_, rfl⟩
    | error => exact nomatch ha
  · exact ⟨s, rfl⟩

/-- A poll that does not read, or reads no error, goes on (R264, R269). -/
theorem exists_poll_of_pollGoesWell (h : s.pollGoesWell = true) : ∃ t, s.poll = .next t := by
  have hinput : ∃ u, s.pollInput = .next u := by
    cases hwants : s.tty.wantsRead with
    | false => exact ⟨s, by simp [State.pollInput, hwants]⟩
    | true =>
      obtain ⟨a, k, hr, ha⟩ := exists_readSource_of_pollGoesWell hwants h
      exact exists_pollInput_of_read hr ha
  obtain ⟨u, hu⟩ := hinput
  exact ⟨u.pollOutput, by rw [State.poll, hu]⟩

/-- A failing poll is a failing read, at the PC it was given (R269). -/
theorem poll_fault {f : Fault} (h : s.poll = .fault f) : ∃ e, f = .ioRead e s.pc := by
  have hinput : s.pollInput = .fault f := by
    unfold State.poll at h
    split at h
    · exact nomatch h
    · next hg => cases h; exact hg
    · exact nomatch h
  unfold State.pollInput at hinput
  split at hinput
  · split at hinput <;> cases hinput
    exact ⟨_, rfl⟩
  · exact nomatch hinput

theorem currentSink_congr (hactive : t.tty.ttoPunchActive = s.tty.ttoPunchActive) (hpunch : t.streams.punch = s.streams.punch)
    (hconsole : t.streams.consoleOut = s.streams.consoleOut) : t.currentSink = s.currentSink := by
  unfold State.currentSink; rw [hactive, hpunch, hconsole]

/-- A read moves no output sink. -/
theorem pollInput_currentSink (h : s.pollInput = .next t) : t.currentSink = s.currentSink := by
  unfold State.pollInput at h
  split at h
  · have hread {a : ReadAnswer} {k : Streams} (hr : s.readSource = some (a, k)) :
        k.punch = s.streams.punch ∧ k.consoleOut = s.streams.consoleOut := by
      rw [readSource_frame hr]; exact ⟨rfl, rfl⟩
    split at h
    case h_1 | h_5 => exact nomatch h
    all_goals
      next hr =>
        obtain ⟨hpunch, hconsole⟩ := hread hr
        cases h
        exact currentSink_congr rfl hpunch hconsole
  · cases h; rfl

theorem pollOutput_currentSink (s : State) : s.pollOutput.currentSink = s.currentSink := by
  unfold State.pollOutput
  split <;> rfl

theorem poll_currentSink (h : s.poll = .next t) : t.currentSink = s.currentSink := by
  unfold State.poll at h
  split at h
  · next hu => cases h; exact (pollOutput_currentSink _).trans (pollInput_currentSink hu)
  all_goals exact nomatch h

/-! ### The write -/

theorem write_of_error {o : Sink} {e : IoError} {rest : List WriteAnswer} (h : o.answers = .error e :: rest) (b : Byte) :
    o.write b = .error e := by
  rw [Sink.write, h]

/-- A write answered by an error fails TPC, whichever sink it goes to (R276, D29). -/
theorem tpc_of_write_error {o : Sink} {e : IoError} {rest : List WriteAnswer} (hsink : s.currentSink = some o)
    (h : o.answers = .error e :: rest) : s.tpc = .fault (.ioWrite e s.pc) := by
  unfold State.currentSink at hsink
  unfold State.tpc
  split at hsink
  · next hactive => simp only [if_pos hactive, hsink, write_of_error h]
  · next hactive =>
    cases hsink
    simp only [if_neg hactive, write_of_error h]

theorem tcf_currentSink (s : State) : s.tcf.currentSink = s.currentSink := rfl

/-- An output word with TPC fails where its write does, with no skip of its own (R155, R302; log entry 12). -/
theorem ttyOutput_of_write_error {o : Sink} {e : IoError} {rest : List WriteAnswer} (hsink : s.currentSink = some o)
    (h : o.answers = .error e :: rest) (b1 b2 : Bool) : s.ttyOutput b1 b2 true = .fault (.ioWrite e s.pc) := by
  have hops : s.ttyOutputOps b2 true = .fault (.ioWrite e s.pc) := by
    cases b2
    · exact tpc_of_write_error hsink h
    · exact tpc_of_write_error ((tcf_currentSink s).trans hsink) h
  rw [State.ttyOutput, hops]

/-- A failing Teletype word failed in its poll or in its write, and carries the PC it was given (R155, R302). -/
theorem ttyIot_fault {sel : Selector} {fn : BitVec 3} {f : Fault} (h : ttyIot sel fn s = .fault f) :
    ∃ e, f = .ioRead e s.pc ∨ f = .ioWrite e s.pc := by
  unfold ttyIot at h
  split at h
  · next u hu =>
    have hpc : u.pc = s.pc := by rw [poll_frame hu]
    split at h
    · exact nomatch h
    · split at h
      · obtain ⟨e, he⟩ := ttyOutput_fault h
        exact ⟨e, .inr (hpc ▸ he)⟩
      · exact nomatch h
  · next hg =>
    cases h
    obtain ⟨e, he⟩ := poll_fault hg
    exact ⟨e, .inl he⟩
  · exact nomatch h

end Teletype

/-- Settles O60: each word of the Teletype is its `iot`, which polls first and then, on the output side, writes; the poll moves
neither the sink nor PC. -/
theorem teletypeErrorsEndTheRun : Obligations.TeletypeErrorsEndTheRun := by
  unfold Obligations.TeletypeErrorsEndTheRun
  refine ⟨fun i sel s f hsel hdev hpoll => ?_, fun i s o e rest htpc hdev hwell hsink hanswers => ?_,
    fun i sel s f hsel hdev hfault => ?_⟩
  · obtain ⟨fn, hexec⟩ := exec_of_busSelector hsel
    rw [hexec, busDispatch_teletype hdev, ttyIot_of_poll_fault hpoll]
  · obtain ⟨fn, hbit, hexec⟩ := exec_of_hasTpc htpc
    obtain ⟨u, hpoll⟩ := exists_poll_of_pollGoesWell hwell
    have hpc : u.pc = s.pc := by rw [poll_frame hpoll]
    rw [hexec, busDispatch_teletype hdev, ttyIot_output hpoll, hbit,
      ttyOutput_of_write_error ((poll_currentSink hpoll).trans hsink) hanswers, hpc]
  · obtain ⟨fn, hexec⟩ := exec_of_busSelector hsel
    rw [hexec, busDispatch_teletype hdev] at hfault
    exact ttyIot_fault hfault

end Sys2Proof.Machine
end

section
/-! PROOFS. Family 41_memory_reference: what each of the six memory-reference instructions does to the Link and AC, to PC and to
memory (spec/41_memory_reference.md R170 to R175). -/

namespace Sys2Proof.Machine

/-! ## The operations on the Link and AC (R33, R170, R171, R173) -/

theorem setWidth_lacAnd (l : Lac) (v : Word) : (lacAnd l v).setWidth 12 = l.setWidth 12 &&& v := by
  simp [lacAnd, BitVec.setWidth_and, BitVec.setWidth_or]

theorem lacAnd_keeps_link (l : Lac) (v : Word) : (lacAnd l v).getLsbD 12 = l.getLsbD 12 := by
  simp [lacAnd]

theorem setWidth_lacCla (l : Lac) : (lacCla l).setWidth 12 = 0 := by
  simp [lacCla, BitVec.setWidth_and]

theorem lacCla_keeps_link (l : Lac) : (lacCla l).getLsbD 12 = l.getLsbD 12 := by
  simp [lacCla]

theorem toNat_lacAdd (l : Lac) (v : Word) : (lacAdd l v).toNat = (l.toNat + v.toNat) % 8192 := by
  rw [lacAdd, BitVec.toNat_add, BitVec.zeroExtend, BitVec.toNat_setWidth_of_le (by decide)]

theorem setWidth_lacAdd (l : Lac) (v : Word) : (lacAdd l v).setWidth 12 = l.setWidth 12 + v := by
  simp [lacAdd, BitVec.setWidth_add]

/-- The added word has no bit 12, so the sum's Link is the old one changed by the carry out of AC bit 11. -/
theorem link_lacAdd (l : Lac) (v : Word) :
    (lacAdd l v).getLsbD 12 = (l.getLsbD 12 ^^ decide (4096 ≤ (l.setWidth 12).toNat + v.toNat)) := by
  have hcarry : BitVec.carry 12 l (v.zeroExtend 13) false = decide (4096 ≤ (l.setWidth 12).toNat + v.toNat) := by
    have hv : (v.zeroExtend 13).toNat % 2 ^ 12 = v.toNat := by
      rw [BitVec.zeroExtend, BitVec.toNat_setWidth_of_le (by decide), Nat.mod_eq_of_lt v.isLt]
    rw [BitVec.carry, hv, BitVec.toNat_setWidth]
    rfl
  have hbit : (v.zeroExtend 13).getLsbD 12 = false := by simp
  rw [lacAdd, BitVec.getLsbD_add (by decide), hbit, hcarry, Bool.false_xor]

/-! ## The skip of ISZ (R172) -/

theorem skipIf_eq (s : State) (c : Bool) : s.skipIf c = { s with pc := if c then s.pc + 1 else s.pc } := by
  cases c <;> rfl

theorem word_add_one_eq_zero_iff {v : Word} : v + 1 = 0 ↔ v.toNat = 4095 := by bv_omega

/-! ## The words that the address phase leaves alone (R76, R77) -/

theorem memRead_afterAddress_of_ne_pointer {s : State} {ind page : Bool} {off : BitVec 7} {a : Word}
    (h : ind = true → isAutoIndex (s.directAddr page off) = true → a ≠ s.directAddr page off) :
    (s.afterAddress ind page off).memRead a = s.memRead a := by
  rcases afterAddress_cases s ind page off with hs1 | ⟨hind, hauto, hs1⟩ <;> rw [hs1]
  exact memRead_memWrite_other s _ (h hind hauto)

/-- A state whose memory is that after the address phase, but for the word stored to, is in the frame of a memory reference. -/
theorem mriMemoryFrame_of_memRead {s t : State} {ind page : Bool} {off : BitVec 7} {stored : Option Word}
    (h : ∀ a : Word, stored ≠ some a → t.memRead a = (s.afterAddress ind page off).memRead a) :
    MriMemoryFrame s t ind page off stored :=
  fun a hstored hpointer => (h a hstored).trans (memRead_afterAddress_of_ne_pointer hpointer)

theorem mriMemoryFrame_of_mem {s t : State} {ind page : Bool} {off : BitVec 7}
    (h : t.mem = (s.afterAddress ind page off).mem) : MriMemoryFrame s t ind page off none :=
  mriMemoryFrame_of_memRead fun a _ => congrArg (Memory.read · a.toNat) h

theorem memRead_of_stored {s t : State} {a ea v : Word} (h : t.mem = (s.memWrite ea v).mem) (ha : a ≠ ea) :
    t.memRead a = s.memRead a :=
  (congrArg (Memory.read · a.toNat) h).trans (memRead_memWrite_other s v ha)

theorem mriMemoryFrame_of_stored {s t : State} {ind page : Bool} {off : BitVec 7} {ea v : Word}
    (h : t.mem = ((s.afterAddress ind page off).memWrite ea v).mem) : MriMemoryFrame s t ind page off (some ea) :=
  mriMemoryFrame_of_memRead fun _ ha => memRead_of_stored h fun hea => ha (congrArg some hea.symm)

/-! ## The next state of each instruction, as an update of the state before it -/

section NextState

variable (ind page : Bool) (off : BitVec 7) (s : State)

theorem exec_and : exec (.and ind page off) s = .next { s with
    lac := lacAnd s.lac ((s.afterAddress ind page off).memRead (s.effAddr ind page off))
    mem := (s.afterAddress ind page off).mem } := by
  change execAnd ind page off s = _
  rw [execAnd, afterAddress_frame]; rfl

theorem exec_tad : exec (.tad ind page off) s = .next { s with
    lac := lacAdd s.lac ((s.afterAddress ind page off).memRead (s.effAddr ind page off))
    mem := (s.afterAddress ind page off).mem } := by
  change execTad ind page off s = _
  rw [execTad, afterAddress_frame]; rfl

theorem exec_isz : exec (.isz ind page off) s = .next { s with
    pc := if (s.afterAddress ind page off).memRead (s.effAddr ind page off) + 1 == 0 then s.pc + 1 else s.pc
    mem := ((s.afterAddress ind page off).memWrite (s.effAddr ind page off)
      ((s.afterAddress ind page off).memRead (s.effAddr ind page off) + 1)).mem } := by
  change execIsz ind page off s = _
  rw [execIsz, skipIf_eq, afterAddress_frame]; rfl

theorem exec_dca : exec (.dca ind page off) s = .next { s with
    lac := lacCla s.lac
    mem := ((s.afterAddress ind page off).memWrite (s.effAddr ind page off) s.ac).mem } := by
  change execDca ind page off s = _
  rw [execDca, afterAddress_frame]; rfl

theorem exec_jms : exec (.jms ind page off) s = .next { s with
    pc := s.effAddr ind page off + 1
    mem := ((s.afterAddress ind page off).memWrite (s.effAddr ind page off) s.pc).mem } := by
  change execJms ind page off s = _
  rw [execJms, afterAddress_frame]; rfl

theorem exec_jmp : exec (.jmp ind page off) s = .next { s with
    pc := s.effAddr ind page off
    mem := (s.afterAddress ind page off).mem } := by
  change execJmp ind page off s = _
  rw [execJmp, afterAddress_frame]; rfl

end NextState

/-! ## The results -/

/-- Settles O10: the mask keeps bit 12, and AC is the low twelve bits. -/
theorem andResult : Obligations.AndResult := by
  unfold Obligations.AndResult
  intro ind page off s ea s1 m
  exact ⟨_, exec_and ind page off s, setWidth_lacAnd s.lac m, lacAnd_keeps_link s.lac m, rfl, rfl,
    mriMemoryFrame_of_mem rfl⟩

/-- Settles O11: the sum of thirteen bits, of which AC is the sum of twelve and the Link takes the carry. -/
theorem tadResult : Obligations.TadResult := by
  unfold Obligations.TadResult
  intro ind page off s ea s1 m
  have hac : ((lacAdd s.lac m).setWidth 12).toNat = (s.ac.toNat + m.toNat) % 4096 := by
    rw [setWidth_lacAdd, BitVec.toNat_add]; rfl
  exact ⟨_, exec_tad ind page off s, toNat_lacAdd s.lac m, hac, link_lacAdd s.lac m, rfl, rfl, mriMemoryFrame_of_mem rfl⟩

/-- Settles O12: the incremented word is stored at EA alone, and it is zero exactly where the word was 0o7777. -/
theorem iszResult : Obligations.IszResult := by
  unfold Obligations.IszResult
  intro ind page off s ea s1 m
  refine ⟨_, exec_isz ind page off s, ?_, ?_, fun _ => memRead_of_stored rfl, rfl, mriMemoryFrame_of_stored rfl⟩
  · exact (congrArg BitVec.toNat (memRead_memWrite_same s1 ea (m + 1))).trans (BitVec.toNat_add m 1)
  · exact if_congr (beq_iff_eq.trans word_add_one_eq_zero_iff) rfl rfl

/-- Settles O13: AC is stored at EA alone, and clearing it keeps bit 12. -/
theorem dcaResult : Obligations.DcaResult := by
  unfold Obligations.DcaResult
  intro ind page off s ea s1
  exact ⟨_, exec_dca ind page off s, memRead_memWrite_same s1 ea s.ac, setWidth_lacCla s.lac, lacCla_keeps_link s.lac,
    fun _ => memRead_of_stored rfl, rfl, mriMemoryFrame_of_stored rfl⟩

/-- Settles O14: the return address is stored at EA alone, and PC is the address after EA. -/
theorem jmsResult : Obligations.JmsResult := by
  unfold Obligations.JmsResult
  intro ind page off s ea s1
  exact ⟨_, exec_jms ind page off s, memRead_memWrite_same s1 ea s.pc, BitVec.toNat_add ea 1, fun _ => memRead_of_stored rfl, rfl,
    mriMemoryFrame_of_stored rfl⟩

/-- Settles O15: the next state differs in PC, which is EA, and in what the address phase wrote. -/
theorem jmpResult : Obligations.JmpResult := by
  unfold Obligations.JmpResult
  intro ind page off s ea s1
  exact ⟨_, exec_jmp ind page off s, rfl, rfl, rfl, mriMemoryFrame_of_mem rfl⟩

end Sys2Proof.Machine
end

section
/-! PROOFS. Family 42_operate: what the steps of groups 1, 2 and 3 do to the Link and AC, the skip tests of group 2, the exchange
with MQ, and the run that a HLT ends (spec/42_operate.md R190 to R224). -/

namespace Sys2Proof.Machine

/-! ## AC and the Link of each step (R193 to R197, R216, R221) -/

/-- The Link and AC make up the whole of LAC (R31). -/
theorem lac_ext {x y : Lac} (hac : x.setWidth 12 = y.setWidth 12) (hlink : x.getLsbD 12 = y.getLsbD 12) : x = y := by
  apply BitVec.eq_of_getLsbD_eq
  intro i hi
  rcases Nat.lt_or_eq_of_le (Nat.le_of_lt_succ hi) with hlt | rfl
  · have hbit := congrArg (·.getLsbD i) hac
    simpa [hlt] using hbit
  · exact hlink

theorem setWidth_lacOr (l : Lac) (v : Word) : (lacOr l v).setWidth 12 = l.setWidth 12 ||| v := by
  simp [lacOr, BitVec.setWidth_or]

theorem lacOr_keeps_link (l : Lac) (v : Word) : (lacOr l v).getLsbD 12 = l.getLsbD 12 := by
  simp [lacOr]

theorem setWidth_lacCll (l : Lac) : (lacCll l).setWidth 12 = l.setWidth 12 := by
  rw [lacCll, BitVec.setWidth_and]
  exact BitVec.and_allOnes

theorem link_lacCll (l : Lac) : (lacCll l).getLsbD 12 = false := by
  simp [lacCll]

theorem setWidth_lacCma (l : Lac) : (lacCma l).setWidth 12 = ~~~l.setWidth 12 := by
  rw [lacCma, BitVec.setWidth_xor]
  exact BitVec.xor_allOnes

theorem lacCma_keeps_link (l : Lac) : (lacCma l).getLsbD 12 = l.getLsbD 12 := by
  simp [lacCma]

theorem setWidth_lacCml (l : Lac) : (lacCml l).setWidth 12 = l.setWidth 12 := by
  rw [lacCml, BitVec.setWidth_xor]
  exact BitVec.xor_zero

theorem link_lacCml (l : Lac) : (lacCml l).getLsbD 12 = !l.getLsbD 12 := by
  simp [lacCml]

theorem lacIac_eq_lacAdd (l : Lac) : lacIac l = lacAdd l 1 := rfl

/-- The Link takes the carry of the increment, which comes out of AC = 0o7777 alone. -/
theorem link_lacIac (l : Lac) : (lacIac l).getLsbD 12 = (l.getLsbD 12 ^^ decide ((l.setWidth 12).toNat = 4095)) := by
  have hcarry : 4096 ≤ (l.setWidth 12).toNat + (1 : Word).toNat ↔ (l.setWidth 12).toNat = 4095 := by
    bv_omega
  rw [lacIac_eq_lacAdd, link_lacAdd, decide_eq_decide.2 hcarry]

/-- The complement incremented is the negation, which carries out of bit 11 for zero alone (R205). -/
theorem setWidth_lacIac_lacCma (l : Lac) : (lacIac (lacCma l)).setWidth 12 = -l.setWidth 12 := by
  rw [lacIac_eq_lacAdd, setWidth_lacAdd, setWidth_lacCma, BitVec.neg_eq_not_add]
  rfl

theorem link_lacIac_lacCma (l : Lac) :
    (lacIac (lacCma l)).getLsbD 12 = (l.getLsbD 12 ^^ decide ((l.setWidth 12).toNat = 0)) := by
  have hzero : (~~~l.setWidth 12).toNat = 4095 ↔ (l.setWidth 12).toNat = 0 := by
    bv_omega
  rw [link_lacIac, lacCma_keeps_link, setWidth_lacCma, decide_eq_decide.2 hzero]

theorem lacCla_eq (l : Lac) : lacCla l = if l.getLsbD 12 then 0o10000 else 0 := BitVec.and_twoPow l 12

theorem lacCll_lacCla (l : Lac) : lacCll (lacCla l) = 0 := by
  rw [lacCla_eq]
  split <;> rfl

/-- An OR into a cleared AC is a load. -/
theorem setWidth_lacOr_lacCla (l : Lac) (v : Word) : (lacOr (lacCla l) v).setWidth 12 = v := by
  rw [setWidth_lacOr, setWidth_lacCla]
  exact BitVec.zero_or

theorem lacOr_lacCla_keeps_link (l : Lac) (v : Word) : (lacOr (lacCla l) v).getLsbD 12 = l.getLsbD 12 := by
  rw [lacOr_keeps_link, lacCla_keeps_link]

/-! ## The rotates, bit by bit (R191, R198 to R202) -/

theorem getLsbD_ror13 (l : Lac) {i : Nat} (hi : i < 12) : (ror13 l).getLsbD i = l.getLsbD (i + 1) := by
  simp [ror13, hi, Nat.add_comm]

theorem link_ror13 (l : Lac) : (ror13 l).getLsbD 12 = l.getLsbD 0 := by
  simp [ror13]

theorem getLsbD_rol13 (l : Lac) {i : Nat} (hi : i < 12) : (rol13 l).getLsbD (i + 1) = l.getLsbD i := by
  have hout : l.getLsbD (12 + (i + 1)) = false := BitVec.getLsbD_of_ge l _ (by omega)
  have hin : i + 1 < 13 := by omega
  simp [rol13, hin, hout, -BitVec.getLsbD_eq_getElem]

theorem getLsbD_zero_rol13 (l : Lac) : (rol13 l).getLsbD 0 = l.getLsbD 12 := by
  simp [rol13]

theorem rol13_ror13 (l : Lac) : rol13 (ror13 l) = l := by
  apply BitVec.eq_of_getLsbD_eq
  intro i hi
  cases i with
  | zero => rw [getLsbD_zero_rol13, link_ror13]
  | succ i => rw [getLsbD_rol13 _ (by omega), getLsbD_ror13 _ (by omega)]

theorem ror13_rol13 (l : Lac) : ror13 (rol13 l) = l := by
  apply BitVec.eq_of_getLsbD_eq
  intro i hi
  rcases Nat.lt_or_eq_of_le (Nat.le_of_lt_succ hi) with hlt | rfl
  · rw [getLsbD_ror13 _ hlt, getLsbD_rol13 _ hlt]
  · rw [link_ror13, getLsbD_zero_rol13]

/-- A word of thirteen bits loses nothing to the mask 0o17777 (R192). -/
theorem rol13_eq_masked (l : Lac) : rol13 l = ((l <<< 1) &&& 0o17777) ||| (l >>> 12) :=
  congrArg (· ||| l >>> 12) (BitVec.and_allOnes (x := l <<< 1)).symm

/-- The Link alone, moved left by one place, is AC bit 0. -/
theorem rol13_lacCla (l : Lac) : rol13 (lacCla l) = if l.getLsbD 12 then 1 else 0 := by
  rw [lacCla_eq]
  split <;> rfl

/-- On AC alone, the exchange of halves is a rotate by six places: each of the twelve bits moves by six. -/
theorem setWidth_bswLac (l : Lac) : (bswLac l).setWidth 12 = l.setWidth 12 <<< 6 ||| l.setWidth 12 >>> 6 := by
  apply BitVec.eq_of_getLsbD_eq
  intro i hi
  interval_cases i <;> simp [bswLac]

theorem link_bswLac (l : Lac) : (bswLac l).getLsbD 12 = l.getLsbD 12 := by
  simp [bswLac]

/-- The two halves have no bit in common, so OR adds. -/
theorem toNat_swappedHalves (v : Word) : (v <<< 6 ||| v >>> 6).toNat = v.toNat % 64 * 64 + v.toNat / 64 := by
  have hhigh : v.toNat * 2 ^ 6 % 2 ^ 12 = 2 ^ 6 * (v.toNat % 64) := by omega
  have hlow : v.toNat / 2 ^ 6 < 2 ^ 6 := by omega
  rw [BitVec.toNat_or, BitVec.toNat_shiftLeft, BitVec.toNat_ushiftRight, Nat.shiftRight_eq_div_pow, Nat.shiftLeft_eq, hhigh,
    ← Nat.two_pow_add_eq_or_of_lt hlow, Nat.mul_comm]
  rfl

theorem toNat_setWidth_bswLac (l : Lac) :
    ((bswLac l).setWidth 12).toNat = (l.setWidth 12).toNat % 64 * 64 + (l.setWidth 12).toNat / 64 := by
  rw [setWidth_bswLac, toNat_swappedHalves]

theorem bswLac_bswLac (l : Lac) : bswLac (bswLac l) = l := by
  apply lac_ext
  · apply BitVec.eq_of_toNat_eq
    rw [toNat_setWidth_bswLac, toNat_setWidth_bswLac]
    have hlt := (l.setWidth 12).isLt
    omega
  · rw [link_bswLac, link_bswLac]

/-! ## The selected steps (R192, R206, R218) -/

theorem setWidth_stepIf_lacCla (b : Bool) (l : Lac) :
    (stepIf b lacCla l).setWidth 12 = if b then 0 else l.setWidth 12 := by
  cases b
  · rfl
  · exact setWidth_lacCla l

theorem setWidth_stepIf_lacOr (b : Bool) (v : Word) (l : Lac) :
    (stepIf b (lacOr · v) l).setWidth 12 = l.setWidth 12 ||| (if b then v else 0) := by
  cases b
  · exact BitVec.or_zero.symm
  · exact setWidth_lacOr l v

theorem stepIf_keeps_link {f : Lac → Lac} (hf : ∀ x, (f x).getLsbD 12 = x.getLsbD 12) (b : Bool) (l : Lac) :
    (stepIf b f l).getLsbD 12 = l.getLsbD 12 := by
  cases b
  · rfl
  · exact hf l

theorem setWidth_group2Lac (cla osr : Bool) (sr : Word) (l : Lac) :
    (group2Lac cla osr sr l).setWidth 12 = (if cla then 0 else l.setWidth 12) ||| (if osr then sr else 0) := by
  rw [group2Lac, setWidth_stepIf_lacOr, setWidth_stepIf_lacCla]

theorem group2Lac_keeps_link (cla osr : Bool) (sr : Word) (l : Lac) :
    (group2Lac cla osr sr l).getLsbD 12 = l.getLsbD 12 := by
  rw [group2Lac, stepIf_keeps_link (lacOr_keeps_link · sr), stepIf_keeps_link lacCla_keeps_link]

theorem setWidth_group3 (cla mqa mql : Bool) (l : Lac) (mq : Word) :
    (group3 cla mqa mql l mq).1.setWidth 12 = (if cla || mql then 0 else l.setWidth 12) ||| (if mqa then mq else 0) := by
  have hcleared : (stepIf mql lacCla (stepIf cla lacCla l)).setWidth 12 = if cla || mql then 0 else l.setWidth 12 := by
    rw [setWidth_stepIf_lacCla, setWidth_stepIf_lacCla]
    cases cla <;> cases mql <;> rfl
  rw [group3, setWidth_stepIf_lacOr, hcleared]

theorem group3_keeps_link (cla mqa mql : Bool) (l : Lac) (mq : Word) :
    (group3 cla mqa mql l mq).1.getLsbD 12 = l.getLsbD 12 := by
  rw [group3, stepIf_keeps_link (lacOr_keeps_link · mq), stepIf_keeps_link lacCla_keeps_link,
    stepIf_keeps_link lacCla_keeps_link]

theorem group3_mq (cla mqa mql : Bool) (l : Lac) (mq : Word) :
    (group3 cla mqa mql l mq).2 = if mql then (if cla then 0 else l.setWidth 12) else mq := by
  rw [group3, setWidth_stepIf_lacCla]

/-! ## The skip tests (R206 to R212) -/

theorem acNegative_eq (l : Lac) : acNegative l = l.getLsbD 11 := by
  have hmask : l &&& 0o4000 = if l.getLsbD 11 then 0o4000 else 0 := BitVec.and_twoPow l 11
  rw [acNegative, hmask]
  cases l.getLsbD 11 <;> rfl

theorem linkSet_eq (l : Lac) : linkSet l = l.getLsbD 12 := by
  have hmask : l &&& 0o10000 = if l.getLsbD 12 then 0o10000 else 0 := lacCla_eq l
  rw [linkSet, hmask]
  cases l.getLsbD 12 <;> rfl

/-- The Link does not count in the zero test, which masks it off as CLL does (R208). -/
theorem acZero_eq (l : Lac) : acZero l = decide (l.setWidth 12 = 0) := by
  have hiff : lacCll l = 0 ↔ l.setWidth 12 = 0 := by
    rw [← setWidth_lacCll l]
    exact ⟨fun h => congrArg (BitVec.setWidth 12) h, fun h => lac_ext h (link_lacCll l)⟩
  exact decide_eq_decide.2 hiff

theorem getLsbD_ac (s : State) {i : Nat} (hi : i < 12) : s.ac.getLsbD i = s.lac.getLsbD i := by
  simp [State.ac, hi]

theorem group2Skips_eq (sma sza snl rev : Bool) (s : State) :
    group2Skips sma sza snl rev s.lac =
      (((sma && s.ac.getLsbD 11) || (sza && decide (s.ac = 0)) || (snl && s.link)) != rev) := by
  rw [group2Skips, acNegative_eq, acZero_eq, linkSet_eq, getLsbD_ac s (by decide)]
  rfl

/-! ## The next state of each instruction, as an update of the state before it -/

section NextState

variable (s : State)

theorem exec_cla1 : exec .cla1 s = .next { s with lac := lacCla s.lac } := rfl
theorem exec_cll : exec .cll s = .next { s with lac := lacCll s.lac } := rfl
theorem exec_cma : exec .cma s = .next { s with lac := lacCma s.lac } := rfl
theorem exec_cml : exec .cml s = .next { s with lac := lacCml s.lac } := rfl
theorem exec_iac : exec .iac s = .next { s with lac := lacIac s.lac } := rfl
theorem exec_rar : exec .rar s = .next { s with lac := ror13 s.lac } := rfl
theorem exec_ral : exec .ral s = .next { s with lac := rol13 s.lac } := rfl
theorem exec_rtr : exec .rtr s = .next { s with lac := ror13 (ror13 s.lac) } := rfl
theorem exec_rtl : exec .rtl s = .next { s with lac := rol13 (rol13 s.lac) } := rfl
theorem exec_bsw : exec .bsw s = .next { s with lac := bswLac s.lac } := rfl
theorem exec_nop : exec .nop s = .next s := rfl
theorem exec_cia : exec .cia s = .next { s with lac := lacIac (lacCma s.lac) } := rfl
theorem exec_stl : exec .stl s = .next { s with lac := lacCml (lacCll s.lac) } := rfl
theorem exec_sta : exec .sta s = .next { s with lac := lacCma (lacCla s.lac) } := rfl
theorem exec_glk : exec .glk s = .next { s with lac := rol13 (lacCla s.lac) } := rfl
theorem exec_claCll : exec .claCll s = .next { s with lac := lacCll (lacCla s.lac) } := rfl

theorem exec_cla2 : exec .cla2 s = .next { s with lac := lacCla s.lac } := rfl
theorem exec_osr : exec .osr s = .next { s with lac := lacOr s.lac s.sr } := rfl
theorem exec_las : exec .las s = .next { s with lac := lacOr (lacCla s.lac) s.sr } := rfl
theorem exec_skp : exec .skp s = .next { s with pc := s.pc + 1 } := rfl
theorem exec_opr2Nop : exec .opr2Nop s = .next s := rfl
theorem exec_hlt : exec .hlt s = .next { s with signal := .halt } := rfl

/-- A group-2 word, with its skip by the condition on the old LAC (R206, R214). -/
theorem runGroup2_eq_condition (cla sma sza snl rev osr hlt : Bool) :
    runGroup2 cla sma sza snl rev osr hlt s = .next { s with
      pc := if (((sma && s.ac.getLsbD 11) || (sza && decide (s.ac = 0)) || (snl && s.link)) != rev) then s.pc + 1 else s.pc
      lac := group2Lac cla osr s.sr s.lac
      signal := if hlt then .halt else s.signal } := by
  rw [← group2Skips_eq]
  exact runGroup2_eq cla sma sza snl rev osr hlt s

/-- A group-2 word with tests alone changes PC alone. -/
theorem runGroup2_tests (sma sza snl rev : Bool) :
    runGroup2 false sma sza snl rev false false s = .next { s with
      pc := if (((sma && s.ac.getLsbD 11) || (sza && decide (s.ac = 0)) || (snl && s.link)) != rev) then s.pc + 1
        else s.pc } :=
  runGroup2_eq_condition s false sma sza snl rev false false

theorem exec_cla3 : exec .cla3 s = .next { s with lac := lacCla s.lac } := rfl
theorem exec_mql : exec .mql s = .next { s with lac := lacCla s.lac, mq := s.ac } := rfl
theorem exec_mqa : exec .mqa s = .next { s with lac := lacOr s.lac s.mq } := rfl
theorem exec_swp : exec .swp s = .next { s with lac := lacOr (lacCla s.lac) s.mq, mq := s.ac } := rfl
theorem exec_opr3Nop : exec .opr3Nop s = .next s := rfl
theorem exec_acl : exec .acl s = .next { s with lac := lacOr (lacCla s.lac) s.mq } := rfl

/-- MQL after CLA moves a zero into MQ (R219, R220), here and with MQA. -/
theorem exec_cam : exec .cam s = .next { s with lac := lacCla (lacCla s.lac), mq := 0 } := by
  rw [← setWidth_lacCla s.lac]
  rfl

theorem exec_opr3_claMqaMql : exec (.opr3 true true false true 0) s =
    .next { s with lac := lacOr (lacCla (lacCla s.lac)) s.mq, mq := 0 } := by
  rw [← setWidth_lacCla s.lac]
  rfl

theorem execOpr3_of_ignored {x040 : Bool} {x016 : BitVec 3} (h : s.params.group3Extra = .ignore ∨ x040 = false ∧ x016 = 0)
    (cla mqa mql : Bool) : execOpr3 cla mqa x040 mql x016 s = runGroup3 cla mqa mql s := by
  unfold execOpr3
  obtain h | ⟨rfl, rfl⟩ := h
  · rw [h]; simp
  · rfl

theorem execOpr3_of_refused {x040 : Bool} {x016 : BitVec 3} (hparam : s.params.group3Extra = .refuse)
    (h : x040 = true ∨ x016 ≠ 0) (cla mqa mql : Bool) : execOpr3 cla mqa x040 mql x016 s = .refused .group3Extra := by
  unfold execOpr3
  rw [hparam]
  exact if_pos (by simpa using h)

theorem runUndefRotate_of_noop (h : s.params.undefRotate = .noop) (cla cll cma cml iac : Bool) :
    runUndefRotate cla cll cma cml iac s = runGroup1 cla cll cma cml iac .off s := by
  rw [runUndefRotate, h]

theorem runUndefRotate_of_refuse (h : s.params.undefRotate = .refuse) (cla cll cma cml iac : Bool) :
    runUndefRotate cla cll cma cml iac s = .refused .undefRotate := by
  rw [runUndefRotate, h]

end NextState

/-- A LAC that is back where it was makes the whole state so. -/
theorem next_of_lac_eq {s : State} {l : Lac} (h : l = s.lac) :
    (.next { s with lac := l } : Host.Outcome State Fault Refusal) = .next s := by
  rw [h]

/-! ## The results of group 1 -/

/-- Settles O16: each is its one step, and the word without a micro-op has none. -/
theorem clearAndComplementResults : Obligations.ClearAndComplementResults := by
  unfold Obligations.ClearAndComplementResults
  intro s
  exact ⟨⟨_, exec_cla1 s, rfl, setWidth_lacCla s.lac, lacCla_keeps_link s.lac⟩,
    ⟨_, exec_cll s, rfl, setWidth_lacCll s.lac, link_lacCll s.lac⟩,
    ⟨_, exec_cma s, rfl, setWidth_lacCma s.lac, lacCma_keeps_link s.lac⟩,
    ⟨_, exec_cml s, rfl, setWidth_lacCml s.lac, link_lacCml s.lac⟩, exec_nop s⟩

/-- Settles O17: the increment is an addition of one. -/
theorem iacResult : Obligations.IacResult := by
  unfold Obligations.IacResult
  intro s
  exact ⟨_, exec_iac s, rfl, toNat_lacAdd s.lac 1, link_lacIac s.lac⟩

/-- Settles O18, bit by bit. -/
theorem singleRotateResults : Obligations.SingleRotateResults := by
  unfold Obligations.SingleRotateResults
  intro s
  exact ⟨⟨_, exec_rar s, rfl, link_ror13 s.lac, fun _ hi => getLsbD_ror13 s.lac hi⟩,
    ⟨_, exec_ral s, rfl, getLsbD_zero_rol13 s.lac, fun _ hi => getLsbD_rol13 s.lac hi⟩⟩

/-- Settles O19: each double rotate is its single rotate twice. -/
theorem doubleRotateResults : Obligations.DoubleRotateResults := by
  unfold Obligations.DoubleRotateResults
  intro s
  refine ⟨⟨_, exec_rtr s, rfl, ?_, ?_, fun i hi => ?_⟩, ⟨_, exec_rtl s, rfl, ?_, ?_, fun i hi => ?_⟩⟩
  · exact (getLsbD_ror13 _ (by decide)).trans (link_ror13 s.lac)
  · exact (link_ror13 _).trans (getLsbD_ror13 s.lac (by decide))
  · exact (getLsbD_ror13 _ (by omega)).trans (getLsbD_ror13 s.lac (by omega))
  · exact (getLsbD_zero_rol13 _).trans (getLsbD_rol13 s.lac (by decide))
  · exact (getLsbD_rol13 _ (by decide)).trans (getLsbD_zero_rol13 s.lac)
  · exact (getLsbD_rol13 _ (by omega)).trans (getLsbD_rol13 s.lac (by omega))

/-- Settles O20: the rotates of LAC are inverse to each other, and nothing but LAC has changed. -/
theorem rotatesUndoEachOther : Obligations.RotatesUndoEachOther := by
  unfold Obligations.RotatesUndoEachOther
  intro s
  have hrtl : rol13 (rol13 (ror13 (ror13 s.lac))) = s.lac := by rw [rol13_ror13, rol13_ror13]
  have hrtr : ror13 (ror13 (rol13 (rol13 s.lac))) = s.lac := by rw [ror13_rol13, ror13_rol13]
  exact ⟨⟨_, exec_rar s, (exec_ral _).trans (next_of_lac_eq (rol13_ror13 s.lac))⟩,
    ⟨_, exec_ral s, (exec_rar _).trans (next_of_lac_eq (ror13_rol13 s.lac))⟩,
    ⟨_, exec_rtr s, (exec_rtl _).trans (next_of_lac_eq hrtl)⟩, ⟨_, exec_rtl s, (exec_rtr _).trans (next_of_lac_eq hrtr)⟩⟩

/-- Settles O21: the halves of AC change places, and twice they are back. -/
theorem bswResult : Obligations.BswResult := by
  unfold Obligations.BswResult
  intro s
  exact ⟨_, exec_bsw s, rfl, toNat_setWidth_bswLac s.lac, link_bswLac s.lac,
    (exec_bsw _).trans (next_of_lac_eq (bswLac_bswLac s.lac))⟩

/-- Settles O22: each combination is the composition of its steps. -/
theorem combinedGroup1Results : Obligations.CombinedGroup1Results := by
  unfold Obligations.CombinedGroup1Results
  intro s
  refine ⟨⟨_, exec_cia s, rfl, ?_, link_lacIac_lacCma s.lac⟩, ⟨_, exec_stl s, rfl, ?_, ?_⟩, ⟨_, exec_sta s, rfl, ?_, ?_⟩,
    ⟨_, exec_glk s, rfl, ?_, ?_⟩, ?_⟩
  · exact (congrArg BitVec.toNat (setWidth_lacIac_lacCma s.lac)).trans (BitVec.toNat_neg s.ac)
  · exact (setWidth_lacCml _).trans (setWidth_lacCll s.lac)
  · exact (link_lacCml _).trans (congrArg not (link_lacCll s.lac))
  · exact (setWidth_lacCma _).trans (congrArg (~~~·) (setWidth_lacCla s.lac))
  · exact (lacCma_keeps_link _).trans (lacCla_keeps_link s.lac)
  · exact (congrArg (BitVec.setWidth 12) (rol13_lacCla s.lac)).trans (apply_ite _ _ _ _)
  · exact (congrArg (BitVec.getLsbD · 12) (rol13_lacCla s.lac)).trans (by split <;> rfl)
  · exact (exec_claCll s).trans (by rw [lacCll_lacCla])

/-- Settles O58: the model's steps are those of R192, and its left rotate needs no mask. Where the rotate field has no meaning the
word has the same steps without a rotate, or is refused. -/
theorem group1Sequence : Obligations.Group1Sequence := by
  unfold Obligations.Group1Sequence
  intro cla cll cma cml iac rot s ror rol l1 l2 l3 l4 l5 l6
  have hrot : rotateLac rot l5 = l6 := by
    have hrol : rol13 = rol := funext rol13_eq_masked
    cases rot with
    | off | bsw | rar | rtr => rfl
    | ral => exact congrFun hrol l5
    | rtl => exact congrFun (congrArg₂ (· ∘ ·) hrol hrol) l5
  refine ⟨?_, fun hparam => ?_, fun hparam => ?_⟩
  · rw [← hrot]; rfl
  · have h := runUndefRotate_of_noop s hparam cla cll cma cml iac
    exact ⟨h, h⟩
  · have h := runUndefRotate_of_refuse s hparam cla cll cma cml iac
    exact ⟨h, h⟩

/-! ## The results of group 2 -/

/-- Settles O23: each row runs its one test, and with the reverse bit skips where the test fails. -/
theorem skipTestResults : Obligations.SkipTestResults := by
  unfold Obligations.SkipTestResults
  intro s
  refine ⟨(runGroup2_tests s true false false false).trans ?_, (runGroup2_tests s false true false false).trans ?_,
    (runGroup2_tests s false false true false).trans ?_, (runGroup2_tests s true false false true).trans ?_,
    (runGroup2_tests s false true false true).trans ?_, (runGroup2_tests s false false true true).trans ?_⟩ <;>
    simp

/-- Settles O24: an OR into the old AC, or into the cleared one; the skip of SZA CLA reads the old AC. -/
theorem group2ClearAndSwitches : Obligations.Group2ClearAndSwitches := by
  unfold Obligations.Group2ClearAndSwitches
  intro s
  refine ⟨⟨_, exec_cla2 s, rfl, setWidth_lacCla s.lac, lacCla_keeps_link s.lac⟩,
    ⟨_, exec_osr s, rfl, setWidth_lacOr s.lac s.sr, lacOr_keeps_link s.lac s.sr⟩,
    ⟨_, exec_las s, rfl, setWidth_lacOr_lacCla s.lac s.sr, lacOr_lacCla_keeps_link s.lac s.sr⟩,
    fun sza => ⟨_, runGroup2_eq_condition s true false sza false false false false, setWidth_lacCla s.lac, ?_⟩⟩
  simp

/-- Settles O25: the reverse bit inverts the condition on the old LAC, and CLA and OSR work on AC alone. -/
theorem group2Sequence : Obligations.Group2Sequence := by
  unfold Obligations.Group2Sequence
  intro cla sma sza snl rev osr hlt s c
  refine ⟨_, runGroup2_eq_condition s cla sma sza snl rev osr hlt, setWidth_group2Lac cla osr s.sr s.lac,
    group2Lac_keeps_link cla osr s.sr s.lac, ?_⟩
  have hrev : (c != rev) = if rev then !c else c := by cases rev <;> simp
  rw [← hrev]

/-- Settles O52: with no test the condition is false, so the reverse bit alone makes the skip. -/
theorem skpHltAndEmptyWordResults : Obligations.SkpHltAndEmptyWordResults := by
  unfold Obligations.SkpHltAndEmptyWordResults
  intro s
  exact ⟨exec_skp s, exec_opr2Nop s, exec_hlt s⟩

/-! ## The results of group 3 -/

/-- Settles O26: MQA ORs the old MQ into the old AC or into the cleared one, and MQ takes AC as CLA left it. -/
theorem group3Results : Obligations.Group3Results := by
  unfold Obligations.Group3Results
  intro s
  refine ⟨⟨_, exec_cla3 s, rfl, setWidth_lacCla s.lac, lacCla_keeps_link s.lac⟩,
    ⟨_, exec_mql s, rfl, setWidth_lacCla s.lac, lacCla_keeps_link s.lac⟩,
    ⟨_, exec_mqa s, rfl, setWidth_lacOr s.lac s.mq, lacOr_keeps_link s.lac s.mq⟩,
    ⟨_, exec_swp s, rfl, setWidth_lacOr_lacCla s.lac s.mq, lacOr_lacCla_keeps_link s.lac s.mq⟩,
    ⟨_, exec_cam s, rfl, setWidth_lacCla _, ?_⟩,
    ⟨_, exec_acl s, rfl, setWidth_lacOr_lacCla s.lac s.mq, lacOr_lacCla_keeps_link s.lac s.mq⟩,
    ⟨_, exec_opr3_claMqaMql s, rfl, setWidth_lacOr_lacCla _ s.mq, ?_⟩⟩
  · exact (lacCla_keeps_link _).trans (lacCla_keeps_link s.lac)
  · exact (lacOr_lacCla_keeps_link _ s.mq).trans (lacCla_keeps_link s.lac)

/-- Settles O27: unless the extra bits are refused, the word runs the sequence of its three bits. -/
theorem group3Sequence : Obligations.Group3Sequence := by
  unfold Obligations.Group3Sequence
  intro cla mqa x040 mql x016 s
  exact ⟨exec_opr3Nop s,
    fun h => ⟨_, (execOpr3_of_ignored s h cla mqa mql).trans (runGroup3_eq cla mqa mql s), rfl,
      group3_keeps_link cla mqa mql s.lac s.mq, setWidth_group3 cla mqa mql s.lac s.mq, group3_mq cla mqa mql s.lac s.mq⟩,
    fun hparam h => execOpr3_of_refused s hparam h cla mqa mql⟩

/-! ## The run that a HLT ends (R217, R305, D6, D7) -/

/-- An iteration that began with this state's latch promotes it whole. -/
theorem promote_ionPending_self (s : State) :
    s.promote s.ionPending = { s with ien := s.ien || s.ionPending, ionPending := false } := by
  rw [State.promote, Bool.and_self]
  split
  · next hpending => rw [hpending, Bool.or_true]; rfl
  · next hclear =>
    have hfalse : s.ionPending = false := eq_false_of_ne_true hclear
    rw [hfalse, Bool.or_false, ← hfalse]

theorem step_of_hlt {s : State} (h : s.memRead s.pc = 0o7402) :
    step s = .next { s with
      pc := s.pc + 1, ir := 0o7402, ien := s.ien || s.ionPending, ionPending := false, signal := .halt } := by
  have hdecode : s.fetched = .hlt := by rw [fetched_eq, h]; rfl
  have hend : (s.fetch.setSignal .halt).endIteration s.ionPending =
      .next ((s.fetch.setSignal .halt).promote s.ionPending) :=
    endIteration_of_halt (promote_signal (s.fetch.setSignal .halt) s.ionPending)
  have hhalt : exec .hlt s.fetch = .next (s.fetch.setSignal .halt) := exec_hlt s.fetch
  rw [step, iteration, hdecode, hhalt]
  refine hend.trans ?_
  rw [← h]
  exact congrArg _ (promote_ionPending_self (s.fetch.setSignal .halt))

/-- Settles O45: the step halts, so the loop stops at it. -/
theorem hltEndsRunWithBudgetLeft : Obligations.HltEndsRunWithBudgetLeft := by
  unfold Obligations.HltEndsRunWithBudgetLeft
  intro s n hset hword
  rw [run_of_pcSet hset, runLoop, step_of_hlt hword]

end Sys2Proof.Machine
end

section
/-! PROOFS. Family 43_iot_and_bus: the words of selector 0, the delay of ION, what a device IOT reaches, dispatch to a selector, and
the device list (spec/43_iot_and_bus.md R241 to R250; 70_reset_and_hazards.md R350). -/

namespace Sys2Proof.Machine

/-! ## What a poll depends on (R263, R269) -/

/-- `t` with the Teletype and the streams of `s`. -/
def State.withPeripherals (t s : State) : State := (t.setTty s.tty).setStreams s.streams

/-- The fault with another PC. -/
def Fault.withPc (pc : Word) : Fault → Fault
  | .ioRead e _ => .ioRead e pc
  | .ioWrite e _ => .ioWrite e pc
  | .device e _ => .device e pc

/-- The outcome of a poll, carried over to the core of `t`. -/
def onCoreOf (t : State) : Host.Outcome State Fault Refusal → Host.Outcome State Fault Refusal
  | .next u => .next (t.withPeripherals u)
  | .fault f => .fault (f.withPc t.pc)
  | .refused r => .refused r

section PollDependence

variable (t s : State)

@[simp] theorem withPeripherals_tty : (t.withPeripherals s).tty = s.tty := rfl
@[simp] theorem readSource_withPeripherals : (t.withPeripherals s).readSource = s.readSource := rfl

theorem pollInput_withPeripherals : (t.withPeripherals s).pollInput = onCoreOf t s.pollInput := by
  unfold State.pollInput
  rw [withPeripherals_tty, readSource_withPeripherals]
  split
  · split <;> rfl
  · rfl

theorem pollOutput_withPeripherals : (t.withPeripherals s).pollOutput = t.withPeripherals s.pollOutput := by
  unfold State.pollOutput
  rw [withPeripherals_tty]
  split <;> rfl

/-- A poll depends on the Teletype and the streams alone; of the core it only puts PC into a fault. -/
theorem poll_withPeripherals : (t.withPeripherals s).poll = onCoreOf t s.poll := by
  unfold State.poll
  rw [pollInput_withPeripherals]
  cases s.pollInput with
  | next u => exact congrArg _ (pollOutput_withPeripherals t u)
  | fault | refused => rfl

end PollDependence

/-! ## A device reaches PC and LAC alone (R245) -/

/-- Values for the parts of the core that a device neither reads nor writes (R245). -/
structure Unreached where
  mem : Memory
  mq : Word
  sr : Word
  ir : Word
  ien : Bool
  ionPending : Bool

/-- `s` with other values in the parts of the core that a device does not reach. -/
def State.withUnreached (s : State) (c : Unreached) : State :=
  { s with mem := c.mem, mq := c.mq, sr := c.sr, ir := c.ir, ien := c.ien, ionPending := c.ionPending }

/-- The outcome with `f` applied to its next state, if it has one. -/
def mapNext (f : State → State) : Host.Outcome State Fault Refusal → Host.Outcome State Fault Refusal
  | .next s => .next (f s)
  | .fault e => .fault e
  | .refused r => .refused r

/-- Exchanging the unreached parts before `act` only exchanges them in the state after it. -/
abbrev BlindToUnreached (c : Unreached) (act : State → Host.Outcome State Fault Refusal) (s : State) : Prop :=
  act (s.withUnreached c) = mapNext (·.withUnreached c) (act s)

section Blind

variable (c : Unreached) (s : State)

@[simp] theorem withUnreached_tty : (s.withUnreached c).tty = s.tty := rfl
@[simp] theorem withUnreached_streams : (s.withUnreached c).streams = s.streams := rfl
@[simp] theorem readSource_withUnreached : (s.withUnreached c).readSource = s.readSource := rfl
@[simp] theorem tpcByte_withUnreached : (s.withUnreached c).tpcByte = s.tpcByte := rfl
@[simp] theorem deviceFor_withUnreached (sel : Selector) : (s.withUnreached c).deviceFor sel = s.deviceFor sel := rfl

theorem poll_blind : BlindToUnreached c State.poll s := by
  have hcarried : (s.withUnreached c).poll = onCoreOf (s.withUnreached c) s.poll := poll_withPeripherals (s.withUnreached c) s
  refine hcarried.trans ?_
  cases hpoll : s.poll with
  | next u =>
    have hcore : (s.withUnreached c).withPeripherals u = u.withUnreached c := by rw [poll_frame hpoll]; rfl
    exact congrArg _ hcore
  | fault f =>
    obtain ⟨e, rfl⟩ := poll_fault hpoll
    rfl
  | refused => rfl

theorem tpc_blind : BlindToUnreached c State.tpc s := by
  unfold BlindToUnreached State.tpc
  rw [withUnreached_tty, withUnreached_streams, tpcByte_withUnreached]
  split
  · split
    · rfl
    · split <;> rfl
  · split <;> rfl

theorem skipIf_withUnreached (b : Bool) : (s.withUnreached c).skipIf b = (s.skipIf b).withUnreached c := by
  cases b <;> rfl

theorem ttyInput_withUnreached (b1 b2 b4 : Bool) :
    (s.withUnreached c).ttyInput b1 b2 b4 = (s.ttyInput b1 b2 b4).withUnreached c := by
  have hksf : opIf b1 State.ksf (s.withUnreached c) = (opIf b1 State.ksf s).withUnreached c := by
    cases b1
    · rfl
    · exact skipIf_withUnreached c s s.tty.ttiReady
  unfold State.ttyInput
  rw [hksf]
  cases b2 <;> cases b4 <;> rfl

theorem ttyOutputOps_blind (b2 b4 : Bool) : BlindToUnreached c (State.ttyOutputOps b2 b4) s := by
  have htcf : opIf b2 State.tcf (s.withUnreached c) = (opIf b2 State.tcf s).withUnreached c := by cases b2 <;> rfl
  unfold BlindToUnreached State.ttyOutputOps
  rw [htcf]
  cases b4
  · rfl
  · exact tpc_blind c (opIf b2 State.tcf s)

theorem ttyOutput_blind (b1 b2 b4 : Bool) : BlindToUnreached c (State.ttyOutput b1 b2 b4) s := by
  unfold BlindToUnreached State.ttyOutput
  rw [ttyOutputOps_blind c s]
  cases s.ttyOutputOps b2 b4 with
  | next u => exact congrArg _ (skipIf_withUnreached c u (s.tsfSkips b1))
  | fault | refused => rfl

theorem ttyIot_blind (sel : Selector) (fn : BitVec 3) : BlindToUnreached c (ttyIot sel fn) s := by
  unfold BlindToUnreached ttyIot
  rw [poll_blind c s]
  cases s.poll with
  | next u =>
    simp only [mapNext]
    split
    · exact congrArg _ (ttyInput_withUnreached c u _ _ _)
    · split
      · exact ttyOutput_blind c u _ _ _
      · rfl
  | fault | refused => rfl

theorem otherIot_blind : BlindToUnreached c otherIot s := by
  unfold BlindToUnreached otherIot
  rw [withUnreached_streams]
  split
  · rfl
  · split <;> rfl

theorem busDispatch_blind (sel : Selector) (fn : BitVec 3) : BlindToUnreached c (busDispatch sel fn) s := by
  unfold BlindToUnreached busDispatch
  rw [deviceFor_withUnreached]
  cases s.deviceFor sel with
  | none => rfl
  | some d =>
    cases d with
    | teletype => exact ttyIot_blind c s sel fn
    | other => exact otherIot_blind c s

end Blind

/-- Settles O34: no part of a dispatch is sensitive to what a device does not reach. -/
theorem deviceIotReachesOnlyPcAndLac : Obligations.DeviceIotReachesOnlyPcAndLac := by
  unfold Obligations.DeviceIotReachesOnlyPcAndLac
  intro sel fn s m q r i e p
  refine (busDispatch_blind ⟨m, q, r, i, e, p⟩ s sel fn).trans ?_
  cases busDispatch sel fn s <;> rfl

/-! ## The words of selector 0 (R241 to R243) -/

theorem exec_ion (s : State) : exec .ion s = .next { s with ionPending := true } := rfl
theorem exec_iof (s : State) : exec .iof s = .next { s with ien := false, ionPending := false } := rfl

theorem exec_iot00 (s : State) : exec .iot00 s = .next s := rfl
theorem exec_iot03 (s : State) : exec .iot03 s = .next s := rfl
theorem exec_iot04 (s : State) : exec .iot04 s = .next s := rfl
theorem exec_iot05 (s : State) : exec .iot05 s = .next s := rfl
theorem exec_iot06 (s : State) : exec .iot06 s = .next s := rfl
theorem exec_iot07 (s : State) : exec .iot07 s = .next s := rfl

/-- Settles O28: each of the words is an ignored one. -/
theorem selectorZeroOthersIgnored : Obligations.SelectorZeroOthersIgnored := by
  unfold Obligations.SelectorZeroOthersIgnored
  exact fun s => ⟨exec_iot00 s, exec_iot03 s, exec_iot04 s, exec_iot05 s, exec_iot06 s, exec_iot07 s⟩

/-- Settles O29: ION writes the latch alone, and IOF clears the enable and the latch. -/
theorem ionAndIofResults : Obligations.IonAndIofResults := by
  unfold Obligations.IonAndIofResults
  exact fun s => ⟨exec_ion s, exec_iof s⟩

/-! ## Dispatch to a selector (R244 to R247) -/

section Dispatch

variable {s : State} {sel : Selector}

theorem busDispatch_unclaimed (h : s.deviceFor sel = none) (fn : BitVec 3) : busDispatch sel fn s = .next s := by
  rw [busDispatch, h]

theorem busDispatch_other {claims : List Selector} (h : s.deviceFor sel = some (.other claims)) (fn : BitVec 3) :
    busDispatch sel fn s = otherIot s := by
  rw [busDispatch, h]

variable {a : IotAnswer} {rest : List IotAnswer} (hscript : s.streams.iotAnswers = a :: rest)
include hscript

theorem otherIot_of_ok (herr : a.err = none) :
    otherIot s = .next { s with
      pc := BitVec.ofNat 12 a.pc, lac := BitVec.ofNat 13 a.lac, streams := { s.streams with iotAnswers := rest } } := by
  unfold otherIot
  rw [hscript]
  simp only [herr]
  rfl

theorem otherIot_of_error {e : IoError} (herr : a.err = some e) :
    otherIot s = .fault (.device e (BitVec.ofNat 12 a.pc)) := by
  unfold otherIot
  rw [hscript]
  simp only [herr]
  rfl

end Dispatch

/-- Settles O32: such a word is dispatched to its selector, where nothing acts. -/
theorem unclaimedSelectorDoesNothing : Obligations.UnclaimedSelectorDoesNothing := by
  unfold Obligations.UnclaimedSelectorDoesNothing
  intro i sel s hsel hnone
  obtain ⟨fn, hexec⟩ := exec_of_busSelector hsel
  rw [hexec, busDispatch_unclaimed hnone]

/-- Settles O33: such a word is dispatched to the claiming device, whose answer is cut to the width of PC and of LAC. -/
theorem otherDeviceAnswerIsMaskedIn : Obligations.OtherDeviceAnswerIsMaskedIn := by
  unfold Obligations.OtherDeviceAnswerIsMaskedIn
  intro i sel s claims a rest hsel hdev hscript
  obtain ⟨fn, hexec⟩ := exec_of_busSelector hsel
  rw [hexec, busDispatch_other hdev]
  exact ⟨fun herr => ⟨_, otherIot_of_ok hscript herr, BitVec.toNat_ofNat a.pc 12, BitVec.toNat_ofNat a.lac 13, rfl⟩,
    fun _ herr => otherIot_of_error hscript herr⟩

/-! ## The device list (R248, R249) -/

/-- The device claims selector 0 or one already claimed, so that its registration is a conflict (R248). -/
abbrev State.ConflictsWith (s : State) (d : Device) : Prop := 0 ∈ d.selectors ∨ ∃ sel ∈ d.selectors, sel ∈ s.claimed

section Devices

variable {s : State} {d : Device}

theorem conflictsWith_iff :
    s.ConflictsWith d ↔ d.selectors.any (fun sel => sel == 0 || s.claimed.contains sel) = true := by
  simp only [List.any_eq_true, Bool.or_eq_true, beq_iff_eq, List.contains_iff_mem]
  constructor
  · rintro (hzero | ⟨sel, hsel, hclaimed⟩)
    · exact ⟨0, hzero, .inl rfl⟩
    · exact ⟨sel, hsel, .inr hclaimed⟩
  · rintro ⟨sel, hsel, rfl | hclaimed⟩
    · exact .inl hsel
    · exact .inr ⟨sel, hsel, hclaimed⟩

theorem registerDevice_of_conflict (h : s.ConflictsWith d) : registerDevice d s = .refused .regConflict :=
  if_pos (conflictsWith_iff.1 h)

theorem registerDevice_of_noConflict (h : ¬ s.ConflictsWith d) :
    registerDevice d s = .next { s with devices := s.devices ++ [d] } :=
  if_neg (mt conflictsWith_iff.2 h)

theorem claimed_append (s : State) (d : Device) :
    ({ s with devices := s.devices ++ [d] } : State).claimed = s.claimed ++ d.selectors := by
  simp [State.claimed]

/-- Devices that all stay quiet only pass the poll on to those after them. -/
theorem interruptPoll_append_of_noneAsserts {before : List Device} {u : State} (h : noneAsserts before s = some u)
    (after : List Device) : interruptPoll (before ++ after) s = interruptPoll after u := by
  induction before generalizing s with
  | nil => cases h; rfl
  | cons e before ih =>
    unfold noneAsserts at h
    split at h
    · next hquiet =>
      rw [List.cons_append, interruptPoll, hquiet]
      exact ih h
    all_goals exact nomatch h

theorem interruptPoll_of_asserts {u : State} (h : d.query s = .answer u true) (after : List Device) :
    interruptPoll (d :: after) s = .next u.enterInterrupt := by
  rw [interruptPoll, h]

end Devices

/-- Settles O46: the model's test is the conflict of the rule. -/
theorem registrationConflict : Obligations.RegistrationConflict := by
  unfold Obligations.RegistrationConflict
  exact fun d s => ⟨registerDevice_of_conflict, fun h => ⟨_, registerDevice_of_noConflict h, rfl, claimed_append s d⟩⟩

/-- Settles O59: the poll passes the quiet devices and ends at the first that asserts. -/
theorem firstAssertingDeviceWins : Obligations.FirstAssertingDeviceWins := by
  unfold Obligations.FirstAssertingDeviceWins
  constructor
  · intro d s t h
    by_cases hconflict : s.ConflictsWith d
    · rw [registerDevice_of_conflict hconflict] at h; exact nomatch h
    · rw [registerDevice_of_noConflict hconflict] at h; cases h; rfl
  · intro before after d s u v hquiet hasserts
    rw [interruptPoll_append_of_noneAsserts hquiet, interruptPoll_of_asserts hasserts]

/-! ## The delay of ION (R241, R350, D5) -/

/-- The state in which the iteration of a NOP with an ION pending asks the devices: fetched, and the ION promoted. -/
def State.fetchedAndPromoted (s : State) : State := (s.fetch.setIen true).setIonPending false

/-- The entry of an interrupt where one is requested. -/
def State.enterIf (requesting : Bool) (s : State) : State := if requesting then s.enterInterrupt else s

section IonDelay

variable {s t u : State}

/-- With the Teletype alone on the bus, its request alone decides the entry (R249, R281). -/
theorem interruptPoll_teletype (h : t.poll = .next u) :
    interruptPoll [.teletype] t = .next (u.enterIf u.tty.requesting) := by
  have hquery : Device.teletype.query t = .answer u u.tty.requesting := by rw [Device.query, h]
  rw [interruptPoll, hquery]
  cases u.tty.requesting <;> rfl

theorem takeExit_of_noRequest (h : s.tty.exitRequest = false) : s.takeExit = s := by
  rw [State.takeExit, h]; rfl

theorem step_of_exec {i : Instr} (hi : decode (s.memRead s.pc) = i) (h : exec i s.fetch = .next u) :
    step s = u.endIteration s.ionPending := by
  rw [step, iteration, fetched_eq, hi, h]

/-- ION with interrupts off and none pending: nothing is promoted in its own iteration, so nothing is asked (D5). -/
theorem step_of_ion (hien : s.ien = false) (hexit : s.tty.exitRequest = false) (hpending : s.ionPending = false)
    (hword : s.memRead s.pc = 0o6001) :
    step s = .next { s with ir := 0o6001, pc := s.pc + 1, ionPending := true, signal := .cont } := by
  have hdecode : decode (s.memRead s.pc) = .ion := by rw [hword]; rfl
  have hend : (s.fetch.setIonPending true).endIteration false = .next (s.fetch.setIonPending true).takeExit :=
    endIteration_of_disabled nofun hien
  rw [step_of_exec hdecode (exec_ion s.fetch), hpending, ← hword]
  exact hend.trans (congrArg _ (takeExit_of_noRequest hexit))

/-- A NOP with an ION pending: the promotion enables the poll of its own iteration (R350, D5). -/
theorem step_of_nop_promoting (hpending : s.ionPending = true) (hword : s.memRead s.pc = 0o7000)
    (hdevices : s.devices = [.teletype]) (hpoll : s.poll = .next u) :
    step s = .next ((s.fetchedAndPromoted.withPeripherals u).enterIf u.tty.requesting).takeExit := by
  have hdecode : decode (s.memRead s.pc) = .nop := by rw [hword]; rfl
  have hpromote : s.fetch.promote s.ionPending = s.fetchedAndPromoted := by
    rw [State.promote, fetch_ionPending, hpending]; rfl
  have hask : interruptPoll s.fetchedAndPromoted.devices s.fetchedAndPromoted =
      .next ((s.fetchedAndPromoted.withPeripherals u).enterIf u.tty.requesting) := by
    have hlist : s.fetchedAndPromoted.devices = [.teletype] := hdevices
    rw [hlist]
    refine interruptPoll_teletype (u := s.fetchedAndPromoted.withPeripherals u) ?_
    exact (poll_withPeripherals s.fetchedAndPromoted s).trans (congrArg _ hpoll)
  rw [step_of_exec hdecode (exec_nop s.fetch), endIteration_of_enabled, hpromote, hask]
  · rw [hpromote]; exact nofun
  · rw [hpromote]; rfl

theorem memRead_takeExit (s : State) (a : Word) : s.takeExit.memRead a = s.memRead a := by
  rw [State.memRead, takeExit_mem, State.memRead]

theorem memRead_enterInterrupt_zero (s : State) : s.enterInterrupt.memRead 0 = s.pc := memRead_memWrite_same s 0 s.pc

theorem memRead_enterInterrupt_other (s : State) {a : Word} (h : a ≠ 0) : s.enterInterrupt.memRead a = s.memRead a :=
  memRead_memWrite_other s s.pc h

end IonDelay

/-- Settles O31: the promotion comes before the poll of the iteration after the ION's own, and a request after that poll decides
the entry. -/
theorem ionTakesEffectOneInstructionLate : Obligations.IonTakesEffectOneInstructionLate := by
  unfold Obligations.IonTakesEffectOneInstructionLate
  intro s hien hexit
  refine ⟨fun hpending hword => step_of_ion hien hexit hpending hword, fun hpending hword hdevices hwell => ?_⟩
  obtain ⟨u, hpoll⟩ := exists_poll_of_pollGoesWell hwell
  have hstep := step_of_nop_promoting hpending hword hdevices hpoll
  cases hreq : u.tty.requesting with
  | true =>
    rw [hreq] at hstep
    refine ⟨u, _, hpoll, hstep, takeExit_ionPending _, by rw [takeExit_tty], fun _ => ⟨takeExit_pc _, takeExit_ien _, ?_, ?_⟩,
      fun hnone => absurd hnone (ne_false_of_eq_true hreq)⟩
    · exact (memRead_takeExit _ 0).trans (memRead_enterInterrupt_zero _)
    · exact fun a ha => (memRead_takeExit _ a).trans (memRead_enterInterrupt_other _ ha)
  | false =>
    rw [hreq] at hstep
    exact ⟨u, _, hpoll, hstep, takeExit_ionPending _, by rw [takeExit_tty], fun hsome => absurd hsome (ne_true_of_eq_false hreq),
      fun _ => ⟨takeExit_pc _, takeExit_ien _, takeExit_mem _⟩⟩

end Sys2Proof.Machine
end

section
/-! PROOFS. Family 44_teletype: the poll, the micro-ops of the input and the output side, what READER_POS counts, when TTO_READY
rises, the request line, and the operations on tape and punch (spec/44_teletype.md R260 to R283). -/

namespace Sys2Proof.Machine

/-! ## The poll (R263 to R269) -/

/-- The Teletype after the output step of a poll: a set printer flag has raised the output request (R263 step 4). -/
def Teletype.raised (t : Teletype) : Teletype := { t with ttoIntPending := t.ttoIntPending || t.ttoReady }

theorem wantsRead_of_armed {t : Teletype} (hactive : t.ttiReaderActive = true) (hrun : t.ttiReaderRun = true) :
    t.wantsRead = true := by
  rw [Teletype.wantsRead, hactive, hrun]; rfl

theorem wantsRead_of_disarmed {t : Teletype} (hactive : t.ttiReaderActive = true) (hrun : t.ttiReaderRun = false) :
    t.wantsRead = false := by
  rw [Teletype.wantsRead, hactive, hrun]; rfl

theorem wantsRead_of_keyboard {t : Teletype} (hactive : t.ttiReaderActive = false) : t.wantsRead = !t.ttiReady := by
  rw [Teletype.wantsRead, hactive]; rfl

/-- A tape byte counts in READER_POS and asks for no exit (R265, R266). -/
theorem accept_of_tape {t : Teletype} (hactive : t.ttiReaderActive = true) (b : Byte) :
    t.accept b = { t with
      ttiBuffer := b, ttiReady := true, ttiReaderRun := false, ttiIntPending := true, readerPos := t.readerPos + 1 } := by
  rw [Teletype.accept, hactive]; rfl

/-- A keyboard byte leaves READER_POS, and 0x1C asks for an exit (R265, R266). -/
theorem accept_of_keyboard {t : Teletype} (hactive : t.ttiReaderActive = false) (b : Byte) :
    t.accept b = { t with
      ttiBuffer := b, ttiReady := true, ttiReaderRun := false, ttiIntPending := true
      exitRequest := t.exitRequest || decide (b.toNat = 28) } := by
  have hbyte : (b == 0x1C) = decide (b.toNat = 28) := by
    rw [Bool.eq_iff_iff, beq_iff_eq, decide_eq_true_iff, ← BitVec.toNat_inj]; rfl
  have hexit : (if !t.ttiReaderActive && b == 0x1C then true else t.exitRequest) =
      (t.exitRequest || decide (b.toNat = 28)) := by
    rw [hactive, hbyte, Bool.or_comm]
    cases decide (b.toNat = 28) <;> rfl
  rw [Teletype.accept, hexit, hactive]; rfl

section Poll

variable {s t : State} {k : Streams}

theorem readSource_of_tape {items : List TapeItem} (hactive : s.tty.ttiReaderActive = true)
    (htape : s.streams.tape = some items) :
    s.readSource = some ((readTape items).1, { s.streams with tape := some (readTape items).2 }) := by
  rw [State.readSource, if_pos hactive, htape]

theorem readSource_of_noTape (hactive : s.tty.ttiReaderActive = true) (htape : s.streams.tape = none) :
    s.readSource = none := by
  rw [State.readSource, if_pos hactive, htape]

theorem readSource_of_console (hactive : s.tty.ttiReaderActive = false) :
    s.readSource =
      some ((readConsole s.streams.consoleIn).1, { s.streams with consoleIn := (readConsole s.streams.consoleIn).2 }) := by
  rw [State.readSource, hactive]; rfl

/-- Past its end a tape answers end of stream and stays as it is (R262, R267). -/
theorem readSource_of_tapeEnd (hactive : s.tty.ttiReaderActive = true) (htape : s.streams.tape = some []) :
    s.readSource = some (.eof, s.streams) := by
  have hsame : { s.streams with tape := some [] } = s.streams := by rw [← htape]
  exact (readSource_of_tape hactive htape).trans (congrArg (fun k => some (ReadAnswer.eof, k)) hsame)

/-- A console input with no answer left finds no byte and stays as it is (log entry 7). -/
theorem readSource_of_consoleSilent (hactive : s.tty.ttiReaderActive = false) (hconsole : s.streams.consoleIn = []) :
    s.readSource = some (.nothing, s.streams) := by
  have hsame : { s.streams with consoleIn := [] } = s.streams := by rw [← hconsole]
  rw [readSource_of_console hactive, hconsole]
  exact congrArg (fun k => some (ReadAnswer.nothing, k)) hsame

theorem readSource_of_consoleAnswer {a : ReadAnswer} {rest : List ReadAnswer} (hactive : s.tty.ttiReaderActive = false)
    (hconsole : s.streams.consoleIn = a :: rest) :
    s.readSource = some (a, { s.streams with consoleIn := rest }) := by
  rw [readSource_of_console hactive, hconsole]; rfl

theorem pollOutput_eq (s : State) : s.pollOutput = s.setTty s.tty.raised := by
  unfold State.pollOutput Teletype.raised
  split
  · next hready =>
    have hor : (s.tty.ttoIntPending || s.tty.ttoReady) = true := by rw [hready, Bool.or_true]
    rw [hor]
  · next hclear =>
    have hor : (s.tty.ttoIntPending || s.tty.ttoReady) = s.tty.ttoIntPending := by
      rw [Bool.eq_false_of_not_eq_true hclear, Bool.or_false]
    rw [hor]; rfl

theorem poll_of_pollInput (h : s.pollInput = .next t) : s.poll = .next (t.setTty t.tty.raised) := by
  rw [State.poll, h, ← pollOutput_eq]

theorem poll_of_idle (h : s.tty.wantsRead = false) : s.poll = .next (s.setTty s.tty.raised) :=
  poll_of_pollInput (by rw [State.pollInput, h]; rfl)

section Read

variable (hwants : s.tty.wantsRead = true)
include hwants

theorem poll_of_byte {b : Byte} (hr : s.readSource = some (.byte b, k)) :
    s.poll = .next ((s.setStreams k).setTty (s.tty.accept b).raised) :=
  poll_of_pollInput (t := (s.setStreams k).setTty (s.tty.accept b)) (by rw [State.pollInput, if_pos hwants, hr])

theorem poll_of_nothing (hr : s.readSource = some (.nothing, k)) : s.poll = .next ((s.setStreams k).setTty s.tty.raised) :=
  poll_of_pollInput (t := s.setStreams k) (by rw [State.pollInput, if_pos hwants, hr])

theorem poll_of_eof (hr : s.readSource = some (.eof, k)) :
    s.poll = .next ((s.setStreams k).setTty { s.tty.raised with ttiReaderEof := true }) :=
  poll_of_pollInput (t := (s.setStreams k).setTty { s.tty with ttiReaderEof := true })
    (by rw [State.pollInput, if_pos hwants, hr])

theorem poll_of_error {e : IoError} (hr : s.readSource = some (.error e, k)) : s.poll = .fault (.ioRead e s.pc) := by
  have hinput : s.pollInput = .fault (.ioRead e s.pc) := by rw [State.pollInput, if_pos hwants, hr]
  rw [State.poll, hinput]

theorem poll_of_noSource (hr : s.readSource = none) : s.poll = .refused .noTape := by
  have hinput : s.pollInput = .refused .noTape := by rw [State.pollInput, if_pos hwants, hr]
  rw [State.poll, hinput]

end Read

/-- What a poll that goes on leaves: it did not read, or its read found a byte, no byte, or the end of the stream. -/
inductive PollEffect (s : State) : State → Prop
  | idle : PollEffect s (s.setTty s.tty.raised)
  | byte {b : Byte} {k : Streams} (read : s.readSource = some (.byte b, k)) :
      PollEffect s ((s.setStreams k).setTty (s.tty.accept b).raised)
  | nothing {k : Streams} (read : s.readSource = some (.nothing, k)) : PollEffect s ((s.setStreams k).setTty s.tty.raised)
  | eof {k : Streams} (read : s.readSource = some (.eof, k)) :
      PollEffect s ((s.setStreams k).setTty { s.tty.raised with ttiReaderEof := true })

theorem poll_effect (h : s.poll = .next t) : PollEffect s t := by
  cases hwants : s.tty.wantsRead with
  | false => rw [poll_of_idle hwants] at h; cases h; exact .idle
  | true =>
    match hr : s.readSource with
    | none => rw [poll_of_noSource hwants hr] at h; exact nomatch h
    | some (.byte b, k) => rw [poll_of_byte hwants hr] at h; cases h; exact .byte hr
    | some (.nothing, k) => rw [poll_of_nothing hwants hr] at h; cases h; exact .nothing hr
    | some (.eof, k) => rw [poll_of_eof hwants hr] at h; cases h; exact .eof hr
    | some (.error e, k) => rw [poll_of_error hwants hr] at h; exact nomatch h

theorem poll_keeps_ttoReady (h : s.poll = .next t) : t.tty.ttoReady = s.tty.ttoReady := by
  cases poll_effect h with
  | idle | byte | nothing | eof => rfl

theorem poll_keeps_ttoPunchActive (h : s.poll = .next t) : t.tty.ttoPunchActive = s.tty.ttoPunchActive := by
  cases poll_effect h with
  | idle | byte | nothing | eof => rfl

theorem readSource_keeps_sinks {a : ReadAnswer} (hr : s.readSource = some (a, k)) :
    k.consoleOut = s.streams.consoleOut ∧ k.punch = s.streams.punch := by
  rw [readSource_frame hr]; exact ⟨rfl, rfl⟩

/-- A poll moves neither output sink. -/
theorem poll_keeps_sinks (h : s.poll = .next t) :
    t.streams.consoleOut = s.streams.consoleOut ∧ t.streams.punch = s.streams.punch := by
  cases poll_effect h with
  | idle => exact ⟨rfl, rfl⟩
  | byte read | nothing read | eof read => exact readSource_keeps_sinks read

theorem poll_keeps_pc (h : s.poll = .next t) : t.pc = s.pc := by rw [poll_frame h]

end Poll

/-- Settles O35: the byte is taken as its source has it taken, and the output step raises the output request. -/
theorem pollTakesOneByte : Obligations.PollTakesOneByte := by
  unfold Obligations.PollTakesOneByte
  intro s b taken
  refine ⟨fun rest hactive hrun htape => ?_, fun rest hactive hready hconsole => ?_⟩
  · have hread := readSource_of_tape hactive htape
    rw [poll_of_byte (wantsRead_of_armed hactive hrun) hread, accept_of_tape hactive]
    rfl
  · have hwants : s.tty.wantsRead = true := by rw [wantsRead_of_keyboard hactive, hready]; rfl
    rw [poll_of_byte hwants (readSource_of_consoleAnswer hactive hconsole), accept_of_keyboard hactive]
    rfl

/-- Settles O56: the four ways a poll holds no byte, each from what its source answers. -/
theorem pollWithoutByte : Obligations.PollWithoutByte := by
  unfold Obligations.PollWithoutByte
  intro s raised
  refine ⟨fun hactive hrun => poll_of_idle (wantsRead_of_disarmed hactive hrun), fun hactive hready => ?_,
    fun hactive hrun => ?_, fun hactive hready => ?_⟩
  · exact poll_of_idle (by rw [wantsRead_of_keyboard hactive, hready]; rfl)
  · have hwants : s.tty.wantsRead = true := wantsRead_of_armed hactive hrun
    exact ⟨fun htape => poll_of_eof hwants (readSource_of_tapeEnd hactive htape),
      fun _ htape => poll_of_nothing hwants (readSource_of_tape hactive htape),
      fun _ _ htape => poll_of_error hwants (readSource_of_tape hactive htape),
      fun htape => poll_of_noSource hwants (readSource_of_noTape hactive htape)⟩
  · have hwants : s.tty.wantsRead = true := by rw [wantsRead_of_keyboard hactive, hready]; rfl
    exact ⟨fun hconsole => poll_of_nothing hwants (readSource_of_consoleSilent hactive hconsole),
      fun _ hconsole => poll_of_nothing hwants (readSource_of_consoleAnswer hactive hconsole),
      fun _ hconsole => poll_of_eof hwants (readSource_of_consoleAnswer hactive hconsole),
      fun _ _ hconsole => poll_of_error hwants (readSource_of_consoleAnswer hactive hconsole)⟩

/-! ## The words of the two selectors (R260, R261) -/

theorem fnOf_bits (b1 b2 b4 : Bool) :
    (fnOf b1 b2 b4).getLsbD 0 = b1 ∧ (fnOf b1 b2 b4).getLsbD 1 = b2 ∧ (fnOf b1 b2 b4).getLsbD 2 = b4 := by
  revert b1 b2 b4; decide

section Words

variable {s p : State}

theorem busDispatch_input (hdev : s.deviceFor 3 = some .teletype) (hpoll : s.poll = .next p) (b1 b2 b4 : Bool) :
    busDispatch 3 (fnOf b1 b2 b4) s = .next (p.ttyInput b1 b2 b4) := by
  obtain ⟨h1, h2, h4⟩ := fnOf_bits b1 b2 b4
  rw [busDispatch_teletype hdev, ttyIot, hpoll, h1, h2, h4]
  rfl

theorem busDispatch_output (hdev : s.deviceFor 4 = some .teletype) (hpoll : s.poll = .next p) (b1 b2 b4 : Bool) :
    busDispatch 4 (fnOf b1 b2 b4) s = p.ttyOutput b1 b2 b4 := by
  obtain ⟨h1, h2, h4⟩ := fnOf_bits b1 b2 b4
  rw [busDispatch_teletype hdev, ttyIot_output hpoll, h1, h2, h4]

/-- A word of the Teletype faults as its poll does, running no micro-op (R261, R269, D21). -/
theorem exec_of_poll_fault {i : Instr} {sel : Selector} {f : Fault} (hsel : busSelector i = some sel)
    (hdev : s.deviceFor sel = some .teletype) (hpoll : s.poll = .fault f) : exec i s = .fault f :=
  teletypeErrorsEndTheRun.1 i sel s f hsel hdev hpoll

end Words

/-! ## The micro-ops of the input side (R270 to R274) -/

/-- What KRS ORs into LAC: the held byte, and bit 0o200 while the keyboard is the source (R272, D12). -/
def Teletype.krsLac (t : Teletype) : Lac := t.ttiBuffer.zeroExtend 13 ||| (if t.ttiReaderActive = true then 0 else 0o200)

/-- The Teletype after KCC: the keyboard flag and its request cleared, the reader armed (R270, D9). -/
def Teletype.keyboardCleared (t : Teletype) : Teletype :=
  { t with ttiReady := false, ttiIntPending := false, ttiReaderRun := true }

theorem zeroExtend_krsWord (t : Teletype) : t.krsWord.zeroExtend 13 = t.krsLac := by
  have hbuffer : (t.ttiBuffer.zeroExtend 12).zeroExtend 13 = t.ttiBuffer.zeroExtend 13 :=
    BitVec.setWidth_setWidth (by decide)
  have hmark : (if t.ttiReaderActive = true then (0 : Word) else 0o200).zeroExtend 13 =
      if t.ttiReaderActive = true then 0 else 0o200 := by split <;> rfl
  rw [Teletype.krsWord, BitVec.zeroExtend, BitVec.setWidth_or]
  exact congrArg₂ (· ||| ·) hbuffer hmark

theorem krs_eq (s : State) : s.krs = { s with lac := s.lac ||| s.tty.krsLac } := by
  rw [State.krs, lacOr, zeroExtend_krsWord]; rfl

theorem ksf_eq (s : State) : s.ksf = { s with pc := if s.tty.ttiReady = true then s.pc + 1 else s.pc } := skipIf_eq s _

/-- An input word: the skip tests the flag before KCC clears it, and KCC clears AC before KRS ORs into it (R261, R274). -/
theorem ttyInput_eq (s : State) (b1 b2 b4 : Bool) : s.ttyInput b1 b2 b4 = { s with
    pc := if b1 then (if s.tty.ttiReady = true then s.pc + 1 else s.pc) else s.pc
    lac := stepIf b4 (· ||| s.tty.krsLac) (stepIf b2 lacCla s.lac)
    tty := if b2 then s.tty.keyboardCleared else s.tty } := by
  have hksf : opIf b1 State.ksf s =
      { s with pc := if b1 then (if s.tty.ttiReady = true then s.pc + 1 else s.pc) else s.pc } := by
    cases b1
    · rfl
    · exact ksf_eq s
  rw [State.ttyInput, hksf]
  cases b4
  · cases b2 <;> rfl
  · cases b2 <;> exact krs_eq _

theorem stepIf_or (b : Bool) (k l : Lac) : stepIf b (· ||| k) l = l ||| (if b then k else 0) := by
  cases b
  · exact BitVec.or_zero.symm
  · rfl

/-- Settles O36: the word is KSF on the polled state. -/
theorem ksfSkipsOnKeyboardFlag : Obligations.KsfSkipsOnKeyboardFlag := by
  unfold Obligations.KsfSkipsOnKeyboardFlag
  refine fun s hdev => ⟨fun hwell => ?_, fun f hpoll => exec_of_poll_fault rfl hdev hpoll⟩
  obtain ⟨p, hpoll⟩ := exists_poll_of_pollGoesWell hwell
  have hword : exec .ksf s = .next p.ksf := busDispatch_input hdev hpoll true false false
  exact ⟨p, hpoll, hword.trans (congrArg _ (ksf_eq p))⟩

/-- Settles O37: each word is its selection of the three micro-ops on the polled state. -/
theorem inputSideResults : Obligations.InputSideResults := by
  unfold Obligations.InputSideResults
  intro s hdev hwell
  obtain ⟨p, hpoll⟩ := exists_poll_of_pollGoesWell hwell
  have hword (b1 b2 b4 : Bool) := (busDispatch_input hdev hpoll b1 b2 b4).trans (congrArg _ (ttyInput_eq p b1 b2 b4))
  refine ⟨p, hpoll, hword false false false, hword false true false, hword false false true, hword false true true,
    hword true true false, hword true false true, hword true true true, fun b1 b2 b4 => ?_⟩
  have hrow := hword b1 b2 b4
  rw [stepIf_or] at hrow
  exact hrow

/-! ## The micro-ops of the output side (R276 to R280) -/

/-- The Teletype after TCF: the printer flag and its request cleared (R278). -/
def Teletype.printerCleared (t : Teletype) : Teletype := { t with ttoReady := false, ttoIntPending := false }

section Output

variable {s t : State}

/-- An output word without TPC: the skip tests the flag before TCF clears it (R261, R280). -/
theorem ttyOutput_of_noTpc (s : State) (b1 b2 : Bool) : s.ttyOutput b1 b2 false = .next { s with
    pc := if b1 then (if s.tty.ttoReady = true then s.pc + 1 else s.pc) else s.pc
    tty := if b2 then s.tty.printerCleared else s.tty } := by
  have hops : s.ttyOutputOps b2 false = .next { s with tty := if b2 then s.tty.printerCleared else s.tty } := by
    cases b2 <;> rfl
  rw [State.ttyOutput, hops]
  refine congrArg _ ((skipIf_eq _ _).trans ?_)
  cases b1 <;> rfl

/-- AC bits 0-7 go to the punch, and bits 0-6 to the console (R276, D11). -/
theorem toNat_tpcByte (s : State) : s.tpcByte.toNat = s.lac.toNat % (if s.tty.ttoPunchActive = true then 256 else 128) := by
  unfold State.tpcByte
  split
  · exact BitVec.toNat_setWidth 8 s.lac
  · have hmask : s.lac.toNat % 2 ^ 8 &&& 2 ^ 7 - 1 = s.lac.toNat % 2 ^ 8 % 2 ^ 7 := Nat.and_two_pow_sub_one_eq_mod _ 7
    rw [BitVec.toNat_and, BitVec.toNat_setWidth]
    exact hmask.trans (Nat.mod_mod_of_dvd _ (by decide))

/-- The streams `k` are those of `s` after its current sink has taken the byte `b`. -/
structure SinkTakes (s : State) (b : Byte) (k : Streams) : Prop where
  bytes : (s.setStreams k).sinkBytes = s.sinkBytes ++ [b]
  otherSink : if s.tty.ttoPunchActive = true then k.consoleOut = s.streams.consoleOut else k.punch = s.streams.punch
  frame : k = { s.streams with consoleOut := k.consoleOut, punch := k.punch }

theorem sinkBytes_of_currentSink {o : Sink} (h : s.currentSink = some o) : s.sinkBytes = o.written := by
  rw [State.sinkBytes, h]; rfl

/-- A write that is answered no error appends its byte (R262, R276). -/
theorem exists_write_of_noError {o : Sink} (h : ((o.answers.head?).getD .ok).isError = false) (b : Byte) :
    ∃ o', o.write b = .ok o' ∧ o'.written = o.written ++ [b] := by
  unfold Sink.write
  match hanswers : o.answers with
  | [] | .ok :: _ => exact ⟨_, rfl, rfl⟩
  | .error e :: _ => rw [hanswers] at h; exact nomatch h

/-- TPC where the write goes well: the current sink takes the byte and the printer flag is set (R276). -/
theorem exists_tpc_of_writeGoesWell (h : s.writeGoesWell = true) :
    ∃ k, s.tpc = .next ((s.setStreams k).setTty { s.tty with ttoReady := true }) ∧ SinkTakes s s.tpcByte k := by
  unfold State.writeGoesWell at h
  split at h
  · exact nomatch h
  · next o hsink =>
    have hok : ((o.answers.head?).getD .ok).isError = false := by simpa using h
    obtain ⟨o', hwrite, hwritten⟩ := exists_write_of_noError hok s.tpcByte
    have hbytes {k : Streams} (hk : (s.setStreams k).currentSink = some o') :
        (s.setStreams k).sinkBytes = s.sinkBytes ++ [s.tpcByte] := by
      rw [sinkBytes_of_currentSink hk, sinkBytes_of_currentSink hsink, hwritten]
    unfold State.tpc
    cases hactive : s.tty.ttoPunchActive with
    | true =>
      have hpunch : s.streams.punch = some o := by rwa [State.currentSink, hactive] at hsink
      refine ⟨{ s.streams with punch := some o' }, by simp [hpunch, hwrite], hbytes (if_pos hactive), ?_, rfl⟩
      rw [if_pos hactive]
    | false =>
      have hconsole : s.streams.consoleOut = o := by
        rw [State.currentSink, hactive] at hsink; exact Option.some.inj hsink
      refine ⟨{ s.streams with consoleOut := o' }, by simp [hconsole, hwrite],
        hbytes (if_neg (ne_true_of_eq_false hactive)), ?_, rfl⟩
      rw [if_neg (ne_true_of_eq_false hactive)]

/-- An output word with TPC where the write goes well: the skip tests the flag first, and TCF may clear the request before the
sink takes the byte and the flag is set (R261, R279, R280). -/
theorem exists_ttyOutput_of_writeGoesWell (h : s.writeGoesWell = true) (b1 b2 : Bool) :
    ∃ k, SinkTakes s s.tpcByte k ∧ s.ttyOutput b1 b2 true = .next { s with
      pc := if b1 = true ∧ s.tty.ttoReady = true then s.pc + 1 else s.pc
      tty := { s.tty with ttoReady := true, ttoIntPending := if b2 then false else s.tty.ttoIntPending }
      streams := k } := by
  have hwell : (opIf b2 State.tcf s).writeGoesWell = true := by cases b2 <;> exact h
  obtain ⟨k, htpc, hbytes, hother, hframe⟩ := exists_tpc_of_writeGoesWell hwell
  have htakes : SinkTakes s s.tpcByte k := by cases b2 <;> exact ⟨hbytes, hother, hframe⟩
  have hops : s.ttyOutputOps b2 true = .next { s with
      tty := { s.tty with ttoReady := true, ttoIntPending := if b2 then false else s.tty.ttoIntPending }
      streams := k } := by
    refine Eq.trans htpc ?_
    cases b2 <;> rfl
  have hskips : s.tsfSkips b1 = true ↔ b1 = true ∧ s.tty.ttoReady = true := Bool.and_eq_true_iff
  refine ⟨k, htakes, ?_⟩
  rw [State.ttyOutput, hops]
  simp only [skipIf_eq, hskips]

/-- The words with TPC, each with its bits 0o1 and 0o2, are sent to selector 4 (R279, R280). -/
theorem exec_of_tpcWord {i : Instr} {b1 b2 : Bool}
    (h : (i, b1, b2) ∈ [(.tpc, false, false), (.tls, false, true), (.tsfTpc, true, false), (.tsfTls, true, true),
      (.tto b1 b2 true, b1, b2)]) (s : State) : exec i s = busDispatch 4 (fnOf b1 b2 true) s := by
  simp only [List.mem_cons, Prod.mk.injEq, List.not_mem_nil, or_false] at h
  obtain ⟨rfl, rfl, rfl⟩ | ⟨rfl, rfl, rfl⟩ | ⟨rfl, rfl, rfl⟩ | ⟨rfl, rfl, rfl⟩ | ⟨rfl, -, -⟩ := h <;> rfl

theorem writeGoesWell_congr (h : t.currentSink = s.currentSink) : t.writeGoesWell = s.writeGoesWell := by
  rw [State.writeGoesWell, h, State.writeGoesWell]

theorem sinkBytes_congr (h : t.currentSink = s.currentSink) : t.sinkBytes = s.sinkBytes := by
  rw [State.sinkBytes, h, State.sinkBytes]

end Output

/-- Settles O38: the poll moves neither PC nor the printer flag, and each word is its micro-op on the polled state. -/
theorem printerFlagTestAndClear : Obligations.PrinterFlagTestAndClear := by
  unfold Obligations.PrinterFlagTestAndClear
  refine ⟨rfl, fun s hdev => ⟨fun hwell => ?_, fun f hpoll =>
    ⟨exec_of_poll_fault rfl hdev hpoll, exec_of_poll_fault rfl hdev hpoll⟩⟩⟩
  obtain ⟨p, hpoll⟩ := exists_poll_of_pollGoesWell hwell
  have hword (b1 b2 : Bool) := (busDispatch_output hdev hpoll b1 b2 false).trans (ttyOutput_of_noTpc p b1 b2)
  have htsf := hword true false
  rw [poll_keeps_ttoReady hpoll, poll_keeps_pc hpoll] at htsf
  exact ⟨p, hpoll, poll_keeps_pc hpoll, htsf, hword false true⟩

/-- Settles O39: each word is its selection of TSF and TCF on the polled state. -/
theorem outputWordsWithoutTpc : Obligations.OutputWordsWithoutTpc := by
  unfold Obligations.OutputWordsWithoutTpc
  intro s hdev hwell
  obtain ⟨p, hpoll⟩ := exists_poll_of_pollGoesWell hwell
  have hword (b1 b2 : Bool) := (busDispatch_output hdev hpoll b1 b2 false).trans (ttyOutput_of_noTpc p b1 b2)
  exact ⟨p, hpoll, hword false false, hword true true, hword⟩

/-- Settles O40: each word writes on the polled state, whose sinks, printer flag, LAC and PC are those before the poll. -/
theorem outputWordsWithTpc : Obligations.OutputWordsWithTpc := by
  unfold Obligations.OutputWordsWithTpc
  intro i b1 b2 s hword hdev hwell hwrite
  obtain ⟨p, hpoll⟩ := exists_poll_of_pollGoesWell hwell
  have hsink := poll_currentSink hpoll
  obtain ⟨k, htakes, hout⟩ := exists_ttyOutput_of_writeGoesWell ((writeGoesWell_congr hsink).trans hwrite) b1 b2
  obtain ⟨hbytes, hother, hframe⟩ := htakes
  obtain ⟨hconsole, hpunch⟩ := poll_keeps_sinks hpoll
  have hbyte := toNat_tpcByte p
  have hlac : p.lac = s.lac := by rw [poll_frame hpoll]
  rw [sinkBytes_congr hsink] at hbytes
  rw [poll_keeps_ttoPunchActive hpoll, hconsole, hpunch] at hother
  rw [poll_keeps_ttoPunchActive hpoll, hlac] at hbyte
  rw [poll_keeps_ttoReady hpoll, poll_keeps_pc hpoll] at hout
  refine ⟨p, _, p.tpcByte, hpoll, (exec_of_tpcWord hword s).trans ((busDispatch_output hdev hpoll b1 b2 true).trans hout),
    hbyte, hbytes, hother, ?_⟩
  rw [← hframe]

/-! ## What a step leaves of the Teletype and its streams (R151) -/

section Step

variable {s t : State}

/-- A query polls the Teletype, or takes an answer of another device (R244, R281). -/
theorem query_cases {d : Device} {r : Bool} (h : d.query s = .answer t r) :
    s.poll = .next t ∨
      (t.tty = s.tty ∧ t.streams = { s.streams with interruptAnswers := t.streams.interruptAnswers }) := by
  unfold Device.query at h
  split at h
  · split at h
    · next hpoll => cases h; exact .inl hpoll
    all_goals exact nomatch h
  · split at h <;> cases h <;> exact .inr ⟨rfl, rfl⟩

theorem otherIot_tty (h : otherIot s = .next t) :
    t.tty = s.tty ∧ t.streams = { s.streams with iotAnswers := t.streams.iotAnswers } := by
  unfold otherIot at h
  split at h
  · cases h; exact ⟨rfl, rfl⟩
  · simp only at h
    split at h
    · cases h; exact ⟨rfl, rfl⟩
    · exact nomatch h

/-- A Teletype IOT polls and then runs the micro-ops of one side, or none. -/
theorem ttyIot_cases {sel : Selector} {fn : BitVec 3} (h : ttyIot sel fn s = .next t) :
    ∃ p, s.poll = .next p ∧
      (t = p ∨ t = p.ttyInput (fn.getLsbD 0) (fn.getLsbD 1) (fn.getLsbD 2) ∨
        (sel = 4 ∧ p.ttyOutput (fn.getLsbD 0) (fn.getLsbD 1) (fn.getLsbD 2) = .next t)) := by
  unfold ttyIot at h
  split at h
  · next p hpoll =>
    refine ⟨p, hpoll, ?_⟩
    split at h
    · cases h; exact .inr (.inl rfl)
    · split at h
      · next hsel => exact .inr (.inr ⟨hsel, h⟩)
      · cases h; exact .inl rfl
  all_goals exact nomatch h

/-- A dispatch does nothing, or is the Teletype's IOT, or another device's (R246). -/
theorem busDispatch_cases {sel : Selector} {fn : BitVec 3} (h : busDispatch sel fn s = .next t) :
    t = s ∨ ttyIot sel fn s = .next t ∨ otherIot s = .next t := by
  unfold busDispatch at h
  split at h
  · cases h; exact .inl rfl
  · exact .inr (.inl h)
  · exact .inr (.inr h)

/-- What depends on the Teletype and the streams alone, and every query and the taking of an exit request keep, the end of an
iteration keeps. -/
theorem endIteration_preserves {P : State → Prop} (hcongr : ∀ u v : State, v.tty = u.tty → v.streams = u.streams → P u → P v)
    (hquery : ∀ (d : Device) (u v : State) (r : Bool), d.query u = .answer v r → P u → P v)
    (hexit : ∀ u : State, P u → P u.takeExit) {b : Bool} (h : s.endIteration b = .next t) (hs : P s) : P t := by
  have hpromoted : P (s.promote b) := hcongr s _ (promote_tty s b) (promote_streams s b) hs
  obtain ⟨-, rfl⟩ | ⟨-, -, rfl⟩ | ⟨-, -, u, hu, rfl⟩ := endIteration_cases h
  · exact hpromoted
  · exact hexit _ hpromoted
  · exact hexit _ (interruptPoll_preserves hquery (fun v hv => hcongr v _ rfl rfl hv) hu hpromoted)

/-- An execute rule leaves the Teletype and the streams, or is a dispatch to the bus (R240). -/
theorem exec_peripheral_cases {i : Instr} (h : exec i s = .next t) :
    (t.tty = s.tty ∧ t.streams = s.streams) ∨ ∃ sel fn, busSelector i = some sel ∧ busDispatch sel fn s = .next t := by
  cases exec_effect h with
  | memoryReference _ frame _ => rw [frame]; exact .inl ⟨rfl, rfl⟩
  | bus sel fn hi dispatch => exact .inr ⟨sel, fn, hi, dispatch⟩
  | ion _ result => rw [result]; exact .inl ⟨rfl, rfl⟩
  | iof _ result => rw [result]; exact .inl ⟨rfl, rfl⟩
  | registers frame => rw [frame]; exact .inl ⟨rfl, rfl⟩

end Step

/-! ## READER_POS and the bytes left on the tape (R265, R283) -/

/-- From `s` to `t` READER_POS has not decreased, and its sum with the bytes left on the tape is the same. -/
structure CountsTape (s t : State) : Prop where
  rises : s.tty.readerPos ≤ t.tty.readerPos
  total : t.tty.readerPos + bytesOnTape t.streams.tape = s.tty.readerPos + bytesOnTape s.streams.tape

theorem CountsTape.of_eq {s t : State} (hpos : t.tty.readerPos = s.tty.readerPos) (htape : t.streams.tape = s.streams.tape) :
    CountsTape s t :=
  ⟨hpos.ge, by rw [hpos, htape]⟩

theorem CountsTape.trans {s t u : State} (hst : CountsTape s t) (htu : CountsTape t u) : CountsTape s u :=
  ⟨hst.rises.trans htu.rises, htu.total.trans hst.total⟩

section Counting

variable {s t : State} {k : Streams}

/-- A byte read from the tape was on it. -/
theorem readTape_byte {items : List TapeItem} {b : Byte} (h : (readTape items).1 = .byte b) :
    bytesOnTape (some (readTape items).2) + 1 = bytesOnTape (some items) := by
  match items with
  | .byte _ :: _ => rfl
  | [] | .nothing :: _ | .error _ :: _ => exact nomatch h

theorem readTape_noByte {items : List TapeItem} (h : ∀ b, (readTape items).1 ≠ .byte b) :
    bytesOnTape (some (readTape items).2) = bytesOnTape (some items) := by
  match items with
  | .byte b :: _ => exact absurd rfl (h b)
  | [] | .nothing :: _ | .error _ :: _ => rfl

theorem readSource_cases {a : ReadAnswer} (h : s.readSource = some (a, k)) :
    (s.tty.ttiReaderActive = true ∧ ∃ items, s.streams.tape = some items ∧ a = (readTape items).1 ∧
      k.tape = some (readTape items).2) ∨
    (s.tty.ttiReaderActive = false ∧ k.tape = s.streams.tape) := by
  cases hactive : s.tty.ttiReaderActive with
  | true =>
    match htape : s.streams.tape with
    | none => rw [readSource_of_noTape hactive htape] at h; exact nomatch h
    | some items =>
      rw [readSource_of_tape hactive htape] at h
      cases h
      exact .inl ⟨rfl, items, rfl, rfl, rfl⟩
  | false =>
    rw [readSource_of_console hactive] at h
    cases h
    exact .inr ⟨rfl, rfl⟩

theorem readSource_noByte {a : ReadAnswer} (h : s.readSource = some (a, k)) (ha : ∀ b, a ≠ .byte b) :
    bytesOnTape k.tape = bytesOnTape s.streams.tape := by
  obtain ⟨-, items, htape, rfl, hrest⟩ | ⟨-, htape⟩ := readSource_cases h
  · rw [hrest, htape, readTape_noByte ha]
  · rw [htape]

/-- A poll counts the byte that it takes from the tape, and no other (R265). -/
theorem poll_countsTape (h : s.poll = .next t) : CountsTape s t := by
  cases poll_effect h with
  | idle => exact .of_eq rfl rfl
  | @byte b k read =>
    obtain ⟨hactive, items, htape, hbyte, hrest⟩ | ⟨hactive, htape⟩ := readSource_cases read
    · have hcount := readTape_byte hbyte.symm
      rw [← hrest, ← htape] at hcount
      rw [accept_of_tape hactive]
      refine ⟨Nat.le_succ _, ?_⟩
      rw [← hcount, ← Nat.add_assoc, Nat.add_right_comm]
      rfl
    · rw [accept_of_keyboard hactive]
      exact .of_eq rfl htape
  | nothing read => exact ⟨Nat.le_refl _, congrArg (s.tty.readerPos + ·) (readSource_noByte read nofun)⟩
  | eof read => exact ⟨Nat.le_refl _, congrArg (s.tty.readerPos + ·) (readSource_noByte read nofun)⟩

theorem ttyInput_countsTape (b1 b2 b4 : Bool) (s : State) : CountsTape s (s.ttyInput b1 b2 b4) := by
  rw [ttyInput_eq]
  cases b2 <;> exact .of_eq rfl rfl

theorem tpc_countsTape (h : s.tpc = .next t) : CountsTape s t := by
  unfold State.tpc at h
  split at h
  · split at h
    · exact nomatch h
    · split at h <;> cases h; exact .of_eq rfl rfl
  · split at h <;> cases h; exact .of_eq rfl rfl

theorem ttyOutput_countsTape {b1 b2 b4 : Bool} (h : s.ttyOutput b1 b2 b4 = .next t) : CountsTape s t := by
  have htcf : CountsTape s (opIf b2 State.tcf s) := by cases b2 <;> exact .of_eq rfl rfl
  have hops {u : State} (hu : s.ttyOutputOps b2 b4 = .next u) : CountsTape s u := by
    unfold State.ttyOutputOps at hu
    split at hu
    · exact htcf.trans (tpc_countsTape hu)
    · cases hu; exact htcf
  unfold State.ttyOutput at h
  split at h
  · next u hu => cases h; exact (hops hu).trans (.of_eq (by rw [skipIf_tty]) (by rw [skipIf_streams]))
  all_goals exact nomatch h

theorem busDispatch_countsTape {sel : Selector} {fn : BitVec 3} (h : busDispatch sel fn s = .next t) : CountsTape s t := by
  obtain rfl | htty | hother := busDispatch_cases h
  · exact .of_eq rfl rfl
  · obtain ⟨p, hpoll, rfl | rfl | ⟨-, hout⟩⟩ := ttyIot_cases htty
    · exact poll_countsTape hpoll
    · exact (poll_countsTape hpoll).trans (ttyInput_countsTape _ _ _ p)
    · exact (poll_countsTape hpoll).trans (ttyOutput_countsTape hout)
  · obtain ⟨htty, hstreams⟩ := otherIot_tty hother
    exact .of_eq (by rw [htty]) (by rw [hstreams])

theorem query_countsTape {d : Device} {r : Bool} (h : d.query s = .answer t r) : CountsTape s t := by
  obtain hpoll | ⟨htty, hstreams⟩ := query_cases h
  · exact poll_countsTape hpoll
  · exact .of_eq (by rw [htty]) (by rw [hstreams])

theorem exec_countsTape {i : Instr} (h : exec i s = .next t) : CountsTape s t := by
  obtain ⟨htty, hstreams⟩ | ⟨sel, fn, -, hbus⟩ := exec_peripheral_cases h
  · exact .of_eq (congrArg _ htty) (congrArg _ hstreams)
  · exact busDispatch_countsTape hbus

theorem step_countsTape (h : step s = .next t) : CountsTape s t := by
  obtain ⟨u, hexec, hend⟩ := step_cases h
  have hfetched : CountsTape s s.fetch := .of_eq rfl rfl
  exact endIteration_preserves (P := CountsTape s)
    (fun _ _ htty hstreams hu => hu.trans (.of_eq (congrArg _ htty) (congrArg _ hstreams)))
    (fun _ _ _ _ hquery hu => hu.trans (query_countsTape hquery))
    (fun v hv => hv.trans (.of_eq (by rw [takeExit_tty]) (by rw [takeExit_streams]))) hend
    (hfetched.trans (exec_countsTape hexec))

end Counting

/-- Settles O41: a step polls, and a poll alone reads; an attach starts the count again. -/
theorem readerPosCountsTapeBytes : Obligations.ReaderPosCountsTapeBytes := by
  unfold Obligations.ReaderPosCountsTapeBytes
  exact ⟨fun s t h => ⟨(step_countsTape h).rises, (step_countsTape h).total⟩, fun _ _ => rfl⟩

/-! ## When TTO_READY rises (R276, R277) -/

/-- A well-formed word without TPC is dispatched, if to the output side at all, with bit 0o4 clear (R260, R276). -/
theorem exec_of_noTpc {i : Instr} {sel : Selector} (hwf : wellFormed i = true) (htpc : hasTpc i = false)
    (hsel : busSelector i = some sel) :
    ∃ fn : BitVec 3, (sel = 4 → fn.getLsbD 2 = false) ∧ ∀ s, exec i s = busDispatch sel fn s := by
  cases i with
  | ksf | kcc | krs | krb | tti0 | ksfKcc | ksfKrs | ksfKrb =>
    cases hsel
    exact ⟨_, fun h => absurd h (by decide), fun _ => rfl⟩
  | tsf | tcf | tto0 | tsfTcf =>
    cases hsel
    refine ⟨_, ?_, fun _ => rfl⟩
    decide
  | iotUnclaimed claimed fn =>
    cases hsel
    refine ⟨fn, fun h => ?_, fun _ => rfl⟩
    rw [wellFormed_iotUnclaimed, h] at hwf
    exact absurd hwf (by decide)
  | tpc | tls | tsfTpc | tsfTls => exact nomatch htpc
  | tti | tto => exact nomatch hwf
  | _ => exact nomatch hsel

section PrinterFlag

variable {s t : State}

/-- Only TPC sets the printer flag: an output word without it keeps a clear flag clear. -/
theorem ttyOutput_noTpc_keeps_clear {b1 b2 : Bool} (h : s.ttyOutput b1 b2 false = .next t) (hs : s.tty.ttoReady = false) :
    t.tty.ttoReady = false := by
  rw [ttyOutput_of_noTpc] at h
  cases h
  cases b2
  · exact hs
  · rfl

theorem ttyInput_ttoReady (b1 b2 b4 : Bool) (s : State) : (s.ttyInput b1 b2 b4).tty.ttoReady = s.tty.ttoReady := by
  rw [ttyInput_eq]
  cases b2 <;> rfl

theorem busDispatch_noTpc_keeps_clear {sel : Selector} {fn : BitVec 3} (hbit : sel = 4 → fn.getLsbD 2 = false)
    (h : busDispatch sel fn s = .next t) (hs : s.tty.ttoReady = false) : t.tty.ttoReady = false := by
  obtain rfl | htty | hother := busDispatch_cases h
  · exact hs
  · obtain ⟨p, hpoll, hcases⟩ := ttyIot_cases htty
    have hp : p.tty.ttoReady = false := (poll_keeps_ttoReady hpoll).trans hs
    obtain rfl | rfl | ⟨hsel, hout⟩ := hcases
    · exact hp
    · exact (ttyInput_ttoReady _ _ _ p).trans hp
    · rw [hbit hsel] at hout
      exact ttyOutput_noTpc_keeps_clear hout hp
  · rw [(otherIot_tty hother).1, hs]

theorem query_ttoReady {d : Device} {r : Bool} (h : d.query s = .answer t r) : t.tty.ttoReady = s.tty.ttoReady := by
  obtain hpoll | ⟨htty, -⟩ := query_cases h
  · exact poll_keeps_ttoReady hpoll
  · rw [htty]

theorem exec_noTpc_keeps_clear {i : Instr} (hwf : wellFormed i = true) (htpc : hasTpc i = false) (h : exec i s = .next t)
    (hs : s.tty.ttoReady = false) : t.tty.ttoReady = false := by
  obtain ⟨htty, -⟩ | ⟨sel, -, hsel, -⟩ := exec_peripheral_cases h
  · rw [htty, hs]
  · obtain ⟨fn, hbit, hexec⟩ := exec_of_noTpc hwf htpc hsel
    rw [hexec] at h
    exact busDispatch_noTpc_keeps_clear hbit h hs

theorem step_noTpc_keeps_clear (htpc : hasTpc (decode (s.memRead s.pc)) = false) (h : step s = .next t)
    (hs : s.tty.ttoReady = false) : t.tty.ttoReady = false := by
  obtain ⟨u, hexec, hend⟩ := step_cases h
  rw [fetched_eq] at hexec
  have hu : u.tty.ttoReady = false := exec_noTpc_keeps_clear (decode_roundTrips _).1 htpc hexec hs
  exact endIteration_preserves (P := fun v => v.tty.ttoReady = false)
    (fun _ _ htty _ hv => by rw [htty, hv])
    (fun _ _ _ _ hquery hv => (query_ttoReady hquery).trans hv)
    (fun v hv => by rw [takeExit_tty]; exact hv) hend hu

end PrinterFlag

/-- Settles O42: a step without TPC keeps a clear flag clear. -/
theorem printerFlagRisesOnlyByTpc : Obligations.PrinterFlagRisesOnlyByTpc := by
  unfold Obligations.PrinterFlagRisesOnlyByTpc
  intro s t h hs ht
  refine Bool.eq_true_of_not_eq_false fun htpc => ?_
  exact absurd (step_noTpc_keeps_clear htpc h hs) (ne_false_of_eq_true ht)

/-! ## The request line (R281, R307 to R311) -/

/-- Settles O44: the request after the poll decides the entry, which leaves the Teletype alone. -/
theorem teletypeInterruptIsLevel : Obligations.TeletypeInterruptIsLevel := by
  unfold Obligations.TeletypeInterruptIsLevel
  intro s hwell
  obtain ⟨p, hpoll⟩ := exists_poll_of_pollGoesWell hwell
  have hframe := poll_frame hpoll
  have hlac : p.lac = s.lac := by rw [hframe]
  have hmq : p.mq = s.mq := by rw [hframe]
  have hsr : p.sr = s.sr := by rw [hframe]
  have hir : p.ir = s.ir := by rw [hframe]
  have hmem (a : Word) : p.memRead a = s.memRead a := by rw [hframe]; rfl
  have hask := interruptPoll_teletype hpoll
  cases hreq : p.tty.requesting with
  | true =>
    rw [hreq] at hask
    refine ⟨p, _, hpoll, hask, rfl, rfl, hlac, hmq, hsr, hir, fun hnone => absurd hnone (ne_false_of_eq_true hreq),
      fun _ => ⟨?_, rfl, rfl, rfl, fun a ha => ?_⟩⟩
    · exact (memRead_enterInterrupt_zero p).trans (poll_keeps_pc hpoll)
    · exact (memRead_enterInterrupt_other p ha).trans (hmem a)
  | false =>
    rw [hreq] at hask
    exact ⟨p, _, hpoll, hask, rfl, rfl, hlac, hmq, hsr, hir, fun _ => rfl,
      fun hsome => absurd hsome (ne_true_of_eq_false hreq)⟩

/-! ## The operations on tape and punch (R282) -/

section Attaching

variable {s : State}

theorem readerStart_of_tape (h : s.streams.tape ≠ none) :
    readerStart s = .next { s with tty := { s.tty with ttiReaderActive := true } } :=
  if_pos (Option.isSome_iff_ne_none.2 h)

theorem readerStart_of_noTape (h : s.streams.tape = none) : readerStart s = .refused .noTape := by
  rw [readerStart, h]; rfl

theorem punchStart_of_punch (h : s.streams.punch ≠ none) :
    punchStart s = .next { s with tty := { s.tty with ttoPunchActive := true } } :=
  if_pos (Option.isSome_iff_ne_none.2 h)

theorem punchStart_of_noPunch (h : s.streams.punch = none) : punchStart s = .refused .noPunch := by
  rw [punchStart, h]; rfl

end Attaching

/-- Settles O48: each operation writes its own fields, and a start asks for what it starts. -/
theorem tapeAndPunchOperations : Obligations.TapeAndPunchOperations := by
  unfold Obligations.TapeAndPunchOperations
  exact fun s tape o => ⟨rfl, readerStart_of_tape, readerStart_of_noTape, rfl, rfl, punchStart_of_punch,
    punchStart_of_noPunch, rfl⟩

end Sys2Proof.Machine
end

section
/-! PROOFS. Family 60_exceptions: interrupt entry, why an operation over the devices can stop, the causes of every fault and refusal
of an execute rule, and that a step completes while no I/O error is coming (spec/60_exceptions.md R300 to R311). -/

namespace Sys2Proof.Machine

/-! ## Interrupt entry (R310, R311) -/

/-- Settles O43: the entry is one write to word 0 and three registers. -/
theorem interruptEntrySavesPcOnly : Obligations.InterruptEntrySavesPcOnly := by
  unfold Obligations.InterruptEntrySavesPcOnly
  exact fun s => ⟨memRead_enterInterrupt_zero s, fun _ ha => memRead_enterInterrupt_other s ha, rfl⟩

/-! ## Streams that answer no error (R155, R262) -/

/-- What `Streams.clean` tests, one clause for each source of answers. -/
structure Streams.AnswersNoError (h : Streams) : Prop where
  consoleIn : ∀ a ∈ h.consoleIn, a.isError = false
  tape : ∀ items, h.tape = some items → ∀ i ∈ items, i.isError = false
  consoleOut : h.consoleOut.clean = true
  punch : ∀ o, h.punch = some o → o.clean = true
  iotAnswers : ∀ a ∈ h.iotAnswers, a.err = none
  interruptAnswers : ∀ a ∈ h.interruptAnswers, a.isError = false

theorem clean_iff_answersNoError {h : Streams} : h.clean = true ↔ h.AnswersNoError := by
  have htape : (∀ i ∈ h.tape.getD [], i.isError = false) ↔
      ∀ items, h.tape = some items → ∀ i ∈ items, i.isError = false := by
    cases h.tape <;> simp
  have hpunch : (match h.punch with | none => true | some o => o.clean) = true ↔ ∀ o, h.punch = some o → o.clean = true := by
    cases h.punch <;> simp
  unfold Streams.clean
  simp only [Bool.and_eq_true, List.all_eq_true, Bool.not_eq_true', Option.isNone_iff_eq_none, htape]
  constructor
  · rintro ⟨⟨⟨⟨⟨hin, ht⟩, hout⟩, hp⟩, hiot⟩, hint⟩
    exact ⟨hin, ht, hout, hpunch.1 hp, hiot, hint⟩
  · rintro ⟨hin, ht, hout, hp, hiot, hint⟩
    exact ⟨⟨⟨⟨⟨hin, ht⟩, hout⟩, hpunch.2 hp⟩, hiot⟩, hint⟩

theorem readTape_noError {items : List TapeItem} (h : ∀ i ∈ items, i.isError = false) :
    (readTape items).1.isError = false ∧ ∀ i ∈ (readTape items).2, i.isError = false := by
  match items with
  | [] => exact ⟨rfl, h⟩
  | .byte _ :: _ | .nothing :: _ => exact ⟨rfl, fun i hi => h i (List.mem_cons_of_mem _ hi)⟩
  | .error e :: _ => exact absurd (h (.error e) List.mem_cons_self) nofun

theorem readConsole_noError {answers : List ReadAnswer} (h : ∀ a ∈ answers, a.isError = false) :
    (readConsole answers).1.isError = false ∧ ∀ a ∈ (readConsole answers).2, a.isError = false := by
  match answers with
  | [] => exact ⟨rfl, h⟩
  | a :: _ => exact ⟨h a List.mem_cons_self, fun b hb => h b (List.mem_cons_of_mem _ hb)⟩

/-- The write used up at most the first of the sink's coming answers. -/
theorem clean_of_write {o o' : Sink} {b : Byte} (h : o.write b = .ok o') (ho : o.clean = true) : o'.clean = true := by
  unfold Sink.write at h
  split at h
  · cases h; exact ho
  · next hanswers => cases h; rw [Sink.clean, hanswers] at ho; exact ho
  · exact nomatch h

theorem not_clean_of_write_error {o : Sink} {b : Byte} {e : IoError} (h : o.write b = .error e) : ¬ o.clean = true := by
  unfold Sink.write at h
  split at h
  · exact nomatch h
  · exact nomatch h
  · next hanswers => rw [Sink.clean, hanswers]; exact nofun

/-! ## Why an operation over the devices can stop (R269, R276, R282, R301) -/

/-- Between `s` and `t` no error has turned up among the coming answers, and nothing that is started was detached. -/
structure DevicesStayFit (s t : State) : Prop where
  noError : s.streams.AnswersNoError → t.streams.AnswersNoError
  attached : s.StartedAreAttached → t.StartedAreAttached

/-- How an operation over the devices can end at `s`: it goes on with the devices as fit as before, it faults because an error was
among the coming answers, or it is refused for a started reader or punch that is not attached. -/
inductive StopsOnlyForCause (s : State) : Host.Outcome State Fault Refusal → Prop
  | next {t : State} (fit : DevicesStayFit s t) : StopsOnlyForCause s (.next t)
  | fault {f : Fault} (error : ¬ s.streams.AnswersNoError) : StopsOnlyForCause s (.fault f)
  | refused {r : Refusal} (name : r = .noTape ∨ r = .noPunch) (detached : ¬ s.StartedAreAttached) :
      StopsOnlyForCause s (.refused r)

section Rules

variable {s t u : State} {o : Host.Outcome State Fault Refusal}

theorem DevicesStayFit.refl (s : State) : DevicesStayFit s s := ⟨id, id⟩

theorem DevicesStayFit.trans (hst : DevicesStayFit s t) (htu : DevicesStayFit t u) : DevicesStayFit s u :=
  ⟨htu.noError ∘ hst.noError, htu.attached ∘ hst.attached⟩

/-- The sources and sinks that are started are those of before, with a tape and a punch attached where they were. -/
theorem DevicesStayFit.of_streams (hreader : t.tty.ttiReaderActive = s.tty.ttiReaderActive)
    (hpunch : t.tty.ttoPunchActive = s.tty.ttoPunchActive) (htape : t.streams.tape.isSome = s.streams.tape.isSome)
    (hsink : t.streams.punch.isSome = s.streams.punch.isSome)
    (hnoError : s.streams.AnswersNoError → t.streams.AnswersNoError) : DevicesStayFit s t :=
  ⟨hnoError, fun hs => by unfold State.StartedAreAttached; rw [hreader, hpunch, htape, hsink]; exact hs⟩

theorem DevicesStayFit.of_flags (hreader : t.tty.ttiReaderActive = s.tty.ttiReaderActive)
    (hpunch : t.tty.ttoPunchActive = s.tty.ttoPunchActive) (hstreams : t.streams = s.streams) : DevicesStayFit s t :=
  .of_streams hreader hpunch (by rw [hstreams]) (by rw [hstreams]) (by rw [hstreams]; exact id)

theorem DevicesStayFit.of_eq (htty : t.tty = s.tty) (hstreams : t.streams = s.streams) : DevicesStayFit s t :=
  .of_flags (by rw [htty]) (by rw [htty]) hstreams

theorem StopsOnlyForCause.fit (h : StopsOnlyForCause s (.next t)) : DevicesStayFit s t := by
  cases h with
  | next fit => exact fit

/-- A cause found after a part that keeps the devices fit was there before it. -/
theorem StopsOnlyForCause.after (hfit : DevicesStayFit s t) (h : StopsOnlyForCause t o) : StopsOnlyForCause s o := by
  cases h with
  | next fit => exact .next (hfit.trans fit)
  | fault error => exact .fault (mt hfit.noError error)
  | refused name detached => exact .refused name (mt hfit.attached detached)

theorem StopsOnlyForCause.mapNext {f : State → State} (hf : ∀ u, DevicesStayFit u (f u)) (h : StopsOnlyForCause s o) :
    StopsOnlyForCause s (mapNext f o) := by
  cases h with
  | next fit => exact .next (fit.trans (hf _))
  | fault error => exact .fault error
  | refused name detached => exact .refused name detached

/-- With no error coming and everything started attached, there is no cause to stop for. -/
theorem StopsOnlyForCause.completes (h : StopsOnlyForCause s o) (hnoError : s.streams.AnswersNoError)
    (hattached : s.StartedAreAttached) : ∃ t, o = .next t ∧ t.streams.AnswersNoError := by
  cases h with
  | next fit => exact ⟨_, rfl, fit.noError hnoError⟩
  | fault error => exact absurd hnoError error
  | refused _ detached => exact absurd hattached detached

/-! ### The poll -/

theorem readSource_noError {a : ReadAnswer} {k : Streams} (hr : s.readSource = some (a, k)) (hs : s.streams.AnswersNoError) :
    a.isError = false ∧ k.AnswersNoError := by
  cases hactive : s.tty.ttiReaderActive with
  | true =>
    match htape : s.streams.tape with
    | none => rw [readSource_of_noTape hactive htape] at hr; exact nomatch hr
    | some items =>
      obtain ⟨hanswer, hrest⟩ := readTape_noError (hs.tape items htape)
      rw [readSource_of_tape hactive htape] at hr
      cases hr
      exact ⟨hanswer, { hs with tape := fun _ hitems => by cases hitems; exact hrest }⟩
  | false =>
    obtain ⟨hanswer, hrest⟩ := readConsole_noError hs.consoleIn
    rw [readSource_of_console hactive] at hr
    cases hr
    exact ⟨hanswer, { hs with consoleIn := hrest }⟩

theorem detached_of_noSource (h : s.readSource = none) : ¬ s.StartedAreAttached := by
  unfold State.readSource at h
  split at h
  · next hactive =>
    split at h
    · next htape => exact fun hs => Option.isSome_iff_ne_none.1 (hs.1 hactive) htape
    · exact nomatch h
  · exact nomatch h

/-- A read keeps the devices fit, whatever the poll notes in the Teletype. -/
theorem DevicesStayFit.of_read {a : ReadAnswer} {k : Streams} (hr : s.readSource = some (a, k)) {y : Teletype}
    (hreader : y.ttiReaderActive = s.tty.ttiReaderActive) (hpunch : y.ttoPunchActive = s.tty.ttoPunchActive) :
    DevicesStayFit s ((s.setStreams k).setTty y) :=
  .of_streams hreader hpunch (readSource_attached hr).1 (readSource_attached hr).2 fun hs => (readSource_noError hr hs).2

theorem poll_stopsOnlyForCause (s : State) : StopsOnlyForCause s s.poll := by
  cases hwants : s.tty.wantsRead with
  | false => rw [poll_of_idle hwants]; exact .next (.of_flags rfl rfl rfl)
  | true =>
    match hr : s.readSource with
    | none => rw [poll_of_noSource hwants hr]; exact .refused (.inl rfl) (detached_of_noSource hr)
    | some (.byte b, k) => rw [poll_of_byte hwants hr]; exact .next (.of_read hr rfl rfl)
    | some (.nothing, k) => rw [poll_of_nothing hwants hr]; exact .next (.of_read hr rfl rfl)
    | some (.eof, k) => rw [poll_of_eof hwants hr]; exact .next (.of_read hr rfl rfl)
    | some (.error e, k) =>
      rw [poll_of_error hwants hr]
      exact .fault fun hs => absurd (readSource_noError hr hs).1 nofun

/-! ### The micro-ops -/

theorem ttyInput_staysFit (b1 b2 b4 : Bool) (s : State) : DevicesStayFit s (s.ttyInput b1 b2 b4) := by
  rw [ttyInput_eq]
  cases b2 <;> exact .of_flags rfl rfl rfl

theorem tpc_stopsOnlyForCause (s : State) : StopsOnlyForCause s s.tpc := by
  unfold State.tpc
  split
  · next hactive =>
    split
    · next hpunch => exact .refused (.inr rfl) fun hs => Option.isSome_iff_ne_none.1 (hs.2 hactive) hpunch
    · next o hpunch =>
      split
      · next o' hwrite =>
        refine .next (.of_streams rfl rfl rfl (by rw [hpunch]; rfl) fun hs => ?_)
        exact { hs with punch := fun _ hsink => by cases hsink; exact clean_of_write hwrite (hs.punch o hpunch) }
      · next hwrite => exact .fault fun hs => not_clean_of_write_error hwrite (hs.punch o hpunch)
  · split
    · next o' hwrite =>
      refine .next (.of_streams rfl rfl rfl rfl fun hs => ?_)
      exact { hs with consoleOut := clean_of_write hwrite hs.consoleOut }
    · next hwrite => exact .fault fun hs => not_clean_of_write_error hwrite hs.consoleOut

theorem ttyOutputOps_stopsOnlyForCause (b2 b4 : Bool) (s : State) : StopsOnlyForCause s (s.ttyOutputOps b2 b4) := by
  have htcf : DevicesStayFit s (opIf b2 State.tcf s) := by cases b2 <;> exact .of_flags rfl rfl rfl
  unfold State.ttyOutputOps
  split
  · exact .after htcf (tpc_stopsOnlyForCause _)
  · exact .next htcf

theorem ttyOutput_eq_mapNext (b1 b2 b4 : Bool) (s : State) :
    s.ttyOutput b1 b2 b4 = mapNext (·.skipIf (s.tsfSkips b1)) (s.ttyOutputOps b2 b4) := by
  unfold State.ttyOutput
  cases s.ttyOutputOps b2 b4 <;> rfl

theorem ttyOutput_stopsOnlyForCause (b1 b2 b4 : Bool) (s : State) : StopsOnlyForCause s (s.ttyOutput b1 b2 b4) := by
  rw [ttyOutput_eq_mapNext]
  exact (ttyOutputOps_stopsOnlyForCause b2 b4 s).mapNext fun u => .of_eq (skipIf_tty u _) (skipIf_streams u _)

/-! ### The bus -/

theorem ttyIot_stopsOnlyForCause (sel : Selector) (fn : BitVec 3) (s : State) : StopsOnlyForCause s (ttyIot sel fn s) := by
  have hcause := poll_stopsOnlyForCause s
  unfold ttyIot
  split
  · next u hpoll =>
    rw [hpoll] at hcause
    refine .after hcause.fit ?_
    split
    · exact .next (ttyInput_staysFit _ _ _ u)
    · split
      · exact ttyOutput_stopsOnlyForCause _ _ _ u
      · exact .next (.refl u)
  · next hpoll => rwa [hpoll] at hcause
  · next hpoll => rwa [hpoll] at hcause

theorem otherIot_stopsOnlyForCause (s : State) : StopsOnlyForCause s (otherIot s) := by
  match hscript : s.streams.iotAnswers with
  | [] =>
    have hidle : otherIot s = .next s := by rw [otherIot, hscript]
    rw [hidle]
    exact .next (.refl s)
  | a :: rest =>
    match herr : a.err with
    | none =>
      rw [otherIot_of_ok hscript herr]
      refine .next (.of_streams rfl rfl rfl rfl fun hs => ?_)
      exact { hs with iotAnswers := fun b hb => hs.iotAnswers b (hscript ▸ List.mem_cons_of_mem a hb) }
    | some e =>
      rw [otherIot_of_error hscript herr]
      exact .fault fun hs => absurd (hs.iotAnswers a (hscript ▸ List.mem_cons_self)) (by rw [herr]; exact nofun)

theorem busDispatch_stopsOnlyForCause (sel : Selector) (fn : BitVec 3) (s : State) :
    StopsOnlyForCause s (busDispatch sel fn s) := by
  unfold busDispatch
  split
  · exact .next (.refl s)
  · exact ttyIot_stopsOnlyForCause sel fn s
  · exact otherIot_stopsOnlyForCause s

/-- A query's outcome without the answer. -/
def Query.outcome : Query → Host.Outcome State Fault Refusal
  | .answer s _ => .next s
  | .fault f => .fault f
  | .refused r => .refused r

theorem query_teletype_outcome (s : State) : (Device.teletype.query s).outcome = s.poll := by
  rw [Device.query]
  cases s.poll <;> rfl

theorem query_stopsOnlyForCause (d : Device) (s : State) : StopsOnlyForCause s (d.query s).outcome := by
  cases d with
  | teletype => rw [query_teletype_outcome]; exact poll_stopsOnlyForCause s
  | other claims =>
    have hrest {a : InterruptAnswer} {rest : List InterruptAnswer} (hscript : s.streams.interruptAnswers = a :: rest) :
        DevicesStayFit s (s.setStreams { s.streams with interruptAnswers := rest }) :=
      .of_streams rfl rfl rfl rfl fun hs =>
        { hs with interruptAnswers := fun b hb => hs.interruptAnswers b (hscript ▸ List.mem_cons_of_mem a hb) }
    unfold Device.query
    match hscript : s.streams.interruptAnswers with
    | [] => exact .next (.refl s)
    | .idle :: _ | .asserting :: _ => exact .next (hrest hscript)
    | .error e :: _ =>
      exact .fault fun hs => absurd (hs.interruptAnswers (.error e) (hscript ▸ List.mem_cons_self)) nofun

theorem interruptPoll_stopsOnlyForCause (ds : List Device) (s : State) : StopsOnlyForCause s (interruptPoll ds s) := by
  induction ds generalizing s with
  | nil => exact .next (.refl s)
  | cons d ds ih =>
    have hcause := query_stopsOnlyForCause d s
    rw [interruptPoll]
    cases hquery : d.query s with
    | answer u requesting =>
      rw [hquery] at hcause
      cases requesting with
      | true => exact .next (hcause.fit.trans (.of_eq rfl rfl))
      | false => exact .after hcause.fit (ih u)
    | fault | refused => rw [hquery] at hcause; exact hcause

end Rules

/-! ## What can stop an execute rule (R204, R223, R300, R303) -/

/-- How `exec i s` can end: it goes on, a parameter refuses it, or it is what its dispatch to the bus is. -/
inductive ExecEnd (i : Instr) (s : State) (o : Host.Outcome State Fault Refusal) : Prop
  | completes {t : State} (result : o = .next t)
  | undefRotate (hparam : s.params.undefRotate = .refuse) (result : o = .refused .undefRotate)
  | group3Extra (hparam : s.params.group3Extra = .refuse) (result : o = .refused .group3Extra)
  | bus (sel : Selector) (fn : BitVec 3) (hi : busSelector i = some sel) (result : o = busDispatch sel fn s)

theorem runUndefRotate_end (i : Instr) (cla cll cma cml iac : Bool) (s : State) :
    ExecEnd i s (runUndefRotate cla cll cma cml iac s) := by
  cases hparam : s.params.undefRotate with
  | noop => exact .completes (runUndefRotate_of_noop s hparam cla cll cma cml iac)
  | refuse => exact .undefRotate hparam (runUndefRotate_of_refuse s hparam cla cll cma cml iac)

theorem execOpr3_end (i : Instr) (cla mqa x040 mql : Bool) (x016 : BitVec 3) (s : State) :
    ExecEnd i s (execOpr3 cla mqa x040 mql x016 s) := by
  unfold execOpr3
  split
  · next hrefuse =>
    obtain ⟨-, hparam⟩ := Bool.and_eq_true_iff.1 hrefuse
    exact .group3Extra (beq_iff_eq.1 hparam) rfl
  · exact .completes (runGroup3_eq cla mqa mql s)

/-- Said once for all instructions: only UNDEF_ROTATE, GROUP3_EXTRA and the bus can keep an execute rule from going on. -/
theorem exec_end (i : Instr) (s : State) : ExecEnd i s (exec i s) := by
  cases i with
  | ksf | kcc | krs | krb | tti0 | ksfKcc | ksfKrs | ksfKrb | tti | tsf | tcf | tpc | tls | tto0 | tsfTcf | tsfTpc | tsfTls
  | tto | iotUnclaimed => exact .bus _ _ rfl rfl
  | opr1Rot014 | opr1Rot016 => exact runUndefRotate_end _ _ _ _ _ _ s
  | opr3 => exact execOpr3_end _ _ _ _ _ _ s
  | _ => exact .completes rfl

theorem exists_deviceFor_of_fault {sel : Selector} {fn : BitVec 3} {s : State} {f : Fault} (h : busDispatch sel fn s = .fault f) :
    ∃ d, s.deviceFor sel = some d := by
  cases hdev : s.deviceFor sel with
  | none => rw [busDispatch_unclaimed hdev] at h; exact nomatch h
  | some d => exact ⟨d, rfl⟩

/-- Settles O50: the execute rule that does not go on was refused by a parameter, or was dispatched to the bus; there an unclaimed
selector does nothing, and a refusal has the cause of the device's. -/
theorem faultsAndRefusalsHaveTheirCause : Obligations.FaultsAndRefusalsHaveTheirCause := by
  unfold Obligations.FaultsAndRefusalsHaveTheirCause
  intro i s
  have hend := exec_end i s
  refine ⟨fun f hf => ?_, fun r hr => ?_⟩
  · rw [hf] at hend
    cases hend with
    | bus sel fn hi result =>
      obtain ⟨d, hdev⟩ := exists_deviceFor_of_fault result.symm
      exact ⟨sel, d, hi, hdev⟩
    | completes result | undefRotate _ result | group3Extra _ result => exact nomatch result
  · rw [hr] at hend
    cases hend with
    | completes result => exact nomatch result
    | undefRotate hparam result => cases result; exact .inl ⟨rfl, hparam⟩
    | group3Extra hparam result => cases result; exact .inr (.inl ⟨rfl, hparam⟩)
    | bus sel fn hi result =>
      have hcause := busDispatch_stopsOnlyForCause sel fn s
      rw [← result] at hcause
      cases hcause with
      | refused name detached => exact .inr (.inr ⟨name, detached, by rw [hi]; exact nofun⟩)

/-! ## A step completes while no I/O error is coming (R155, R300, R303) -/

section Completion

variable {s t : State}

theorem exec_staysFit {i : Instr} (h : exec i s = .next t) : DevicesStayFit s t := by
  obtain ⟨htty, hstreams⟩ | ⟨sel, fn, -, hbus⟩ := exec_peripheral_cases h
  · exact .of_eq htty hstreams
  · have hcause := busDispatch_stopsOnlyForCause sel fn s
    rw [hbus] at hcause
    exact hcause.fit

/-- With both parameters at their defaults only a device can stop an execute rule. -/
theorem exec_stopsOnlyForCause (hrotate : s.params.undefRotate = .noop) (hextra : s.params.group3Extra = .ignore) (i : Instr) :
    StopsOnlyForCause s (exec i s) := by
  cases exec_end i s with
  | completes result => rw [result]; exact .next (exec_staysFit result)
  | undefRotate hparam _ => rw [hrotate] at hparam; exact nomatch hparam
  | group3Extra hparam _ => rw [hextra] at hparam; exact nomatch hparam
  | bus sel fn _ result => rw [result]; exact busDispatch_stopsOnlyForCause sel fn s

theorem promote_staysFit (p : Bool) (s : State) : DevicesStayFit s (s.promote p) :=
  .of_eq (promote_tty s p) (promote_streams s p)

theorem takeExit_staysFit (s : State) : DevicesStayFit s s.takeExit :=
  .of_flags (by rw [takeExit_tty]) (by rw [takeExit_tty]) (takeExit_streams s)

theorem endIteration_stopsOnlyForCause (p : Bool) (s : State) : StopsOnlyForCause s (s.endIteration p) := by
  refine .after (promote_staysFit p s) ?_
  by_cases hhalt : (s.promote p).signal = .halt
  · rw [endIteration_of_halt hhalt]
    exact .next (.refl _)
  · cases hien : (s.promote p).ien with
    | false =>
      rw [endIteration_of_disabled hhalt hien]
      exact .next (takeExit_staysFit _)
    | true =>
      rw [endIteration_of_enabled hhalt hien]
      exact (interruptPoll_stopsOnlyForCause _ _).mapNext takeExit_staysFit

theorem step_stopsOnlyForCause (hrotate : s.params.undefRotate = .noop) (hextra : s.params.group3Extra = .ignore) :
    StopsOnlyForCause s (step s) := by
  have hexec : StopsOnlyForCause s (exec s.fetched s.fetch) :=
    .after (.of_eq (fetch_tty s) (fetch_streams s)) (exec_stopsOnlyForCause (s := s.fetch) hrotate hextra s.fetched)
  unfold step iteration
  cases hu : exec s.fetched s.fetch with
  | next u => rw [hu] at hexec; exact .after hexec.fit (endIteration_stopsOnlyForCause s.ionPending u)
  | fault | refused => rwa [hu] at hexec

theorem endIteration_keeps_params {p : Bool} (h : s.endIteration p = .next t) : t.params = s.params := by
  obtain ⟨-, rfl⟩ | ⟨-, -, rfl⟩ | ⟨-, -, u, hu, rfl⟩ := endIteration_cases h
  · exact promote_params s p
  · rw [takeExit_params, promote_params]
  · obtain ⟨v, hv, rfl | rfl⟩ := interruptPoll_cases hu
    · rw [takeExit_params, hv]; exact promote_params s p
    · rw [takeExit_params, enterInterrupt_params, hv]; exact promote_params s p

theorem step_keeps_params (h : step s = .next t) : t.params = s.params := by
  obtain ⟨u, hexec, hend⟩ := step_cases h
  obtain ⟨-, -, -, hparams, -⟩ := instructionsStayInTheirState _ _ _ hexec
  exact (endIteration_keeps_params hend).trans hparams

end Completion

/-- Settles O55: under these premises a step has no cause to stop. -/
theorem everyStepCompletesWithoutIoErrors : Obligations.EveryStepCompletesWithoutIoErrors := by
  unfold Obligations.EveryStepCompletesWithoutIoErrors
  intro s hinv hrotate hextra hclean
  obtain ⟨hsound, -⟩ := inv_iff_sound.1 hinv
  obtain ⟨t, hstep, hnoError⟩ :=
    (step_stopsOnlyForCause hrotate hextra).completes (clean_iff_answersNoError.1 hclean) hsound.peripheral.attached
  exact ⟨t, hstep, clean_iff_answersNoError.2 hnoError, step_keeps_params hstep⟩

end Sys2Proof.Machine
end

section
/-! PROOFS. Family 70_reset_and_hazards: what `LoadImage` stores and what it leaves alone (spec/70_reset_and_hazards.md R346). -/

namespace Sys2Proof.Machine

/-! ## Loading an image -/

theorem loadImage_cons (addr : Word) (w : Nat) (ws : List Nat) (s : State) :
    loadImage addr (w :: ws) s = loadImage (addr + 1) ws (s.memWrite addr (BitVec.ofNat 12 w)) := rfl

/-- The address of a word, counted from the image's first word and from its second. -/
theorem add_ofNat_succ (addr : Word) (i : Nat) : addr + BitVec.ofNat 12 (i + 1) = addr + 1 + BitVec.ofNat 12 i := by
  rw [Nat.add_comm, BitVec.ofNat_add, ← BitVec.add_assoc]
  rfl

/-- An image of at most 4096 words does not come round to its first address again. -/
theorem ne_add_ofNat_succ (addr : Word) {i : Nat} (h : i + 1 < 4096) : addr ≠ addr + BitVec.ofNat 12 (i + 1) := by
  bv_omega

theorem loadImage_frame (addr : Word) (words : List Nat) (s : State) :
    loadImage addr words s = { s with mem := (loadImage addr words s).mem } := by
  induction words generalizing addr s with
  | nil => rfl
  | cons w ws ih => exact ih (addr + 1) (s.memWrite addr (BitVec.ofNat 12 w))

theorem memRead_loadImage_other {addr a : Word} {words : List Nat} (s : State)
    (h : ∀ i < words.length, a ≠ addr + BitVec.ofNat 12 i) : (loadImage addr words s).memRead a = s.memRead a := by
  induction words generalizing addr s with
  | nil => rfl
  | cons w ws ih =>
    have hfirst : a ≠ addr := by simpa using h 0 (Nat.succ_pos _)
    have hrest : ∀ i < ws.length, a ≠ addr + 1 + BitVec.ofNat 12 i := fun i hi =>
      add_ofNat_succ addr i ▸ h (i + 1) (Nat.succ_lt_succ hi)
    rw [loadImage_cons, ih _ hrest, memRead_memWrite_other s _ hfirst]

theorem memRead_loadImage_word {addr : Word} {words : List Nat} (s : State) (hlength : words.length ≤ 4096) (i : Nat)
    (h : i < words.length) :
    (loadImage addr words s).memRead (addr + BitVec.ofNat 12 i) = BitVec.ofNat 12 words[i] := by
  induction words generalizing addr s i with
  | nil => exact absurd h (Nat.not_lt_zero i)
  | cons w ws ih =>
    rw [List.length_cons] at hlength
    cases i with
    | zero =>
      have hkept : ∀ j < ws.length, addr ≠ addr + 1 + BitVec.ofNat 12 j := fun j hj =>
        add_ofNat_succ addr j ▸ ne_add_ofNat_succ addr (by omega)
      rw [BitVec.add_zero, loadImage_cons, memRead_loadImage_other _ hkept, memRead_memWrite_same, List.getElem_cons_zero]
    | succ j =>
      rw [add_ofNat_succ, loadImage_cons]
      exact ih _ (by omega) j (Nat.lt_of_succ_lt_succ h)

/-- Settles O47: within 4096 words no address comes twice, so each word stays as written. -/
theorem loadImageFillsConsecutiveWords : Obligations.LoadImageFillsConsecutiveWords := by
  unfold Obligations.LoadImageFillsConsecutiveWords
  intro addr words s hlength
  refine ⟨fun i h => ?_, fun a h => memRead_loadImage_other s h, loadImage_frame addr words s⟩
  rw [memRead_loadImage_word s hlength i h, BitVec.toNat_ofNat]

end Sys2Proof.Machine
end

section
/-! PROOFS. Family 30_encoding: decoding gives an encoded well-formed instruction back (spec/30_encoding.md sections 2 to 5). The
bits its row fixes lead the decoder to its family, the bits its row leaves free are its operands, and a generic term whose word
has an exact row is ill-formed. -/

namespace Sys2Proof.Machine

/-! ## Fields of a union (R100) -/

@[simp] theorem getElem_bit (b : Bool) (m : Word) (k : Nat) (hk : k < 12) : (bit b m)[k] = (b && m[k]) := by
  cases b
  · exact BitVec.getElem_zero hk
  · rfl

/-- A micro-op bit outside a field adds nothing to the field. -/
theorem extractLsb'_bit {m : Word} {k n : Nat} (b : Bool) (hm : m.extractLsb' k n = 0) : (bit b m).extractLsb' k n = 0 := by
  cases b
  · exact BitVec.extractLsb'_zero
  · exact hm

/-- An operand of `n` bits, put at its place, is read back from there. -/
theorem extractLsb'_zeroExtend_shiftLeft {n k : Nat} (x : BitVec n) (h : k + n ≤ 12) :
    (x.zeroExtend 12 <<< k).extractLsb' k n = x := by
  refine BitVec.eq_of_getLsbD_eq fun i hi => ?_
  have hword : k + i < 12 := by omega
  simp [hi, hword]

theorem extractLsb'_zeroExtend {n : Nat} (x : BitVec n) (h : n ≤ 12) : (x.zeroExtend 12).extractLsb' 0 n = x := by
  rw [← BitVec.shiftLeft_zero (x.zeroExtend 12)]
  exact extractLsb'_zeroExtend_shiftLeft x (by omega)

/-- An operand put below a field adds nothing to the field. -/
theorem extractLsb'_zeroExtend_of_le {n k : Nat} (m : Nat) (x : BitVec n) (h : n ≤ k) :
    (x.zeroExtend 12).extractLsb' k m = 0 := by
  refine BitVec.eq_of_getLsbD_eq fun i hi => ?_
  have hbeyond : x.getLsbD (k + i) = false := BitVec.getLsbD_of_ge x _ (by omega)
  simp [hbeyond]

/-- An operand put above a field adds nothing to the field. -/
theorem extractLsb'_shiftLeft_of_le {k m : Nat} (w : Word) (h : m ≤ k) : (w <<< k).extractLsb' 0 m = 0 := by
  refine BitVec.eq_of_getLsbD_eq fun i hi => ?_
  have hbelow : i < k := by omega
  simp [hbelow]

/-! ## The fixed bits of a row lead to its family (R101, R107) -/

/-- Every row fixes the opcode. -/
theorem opcodeField_rowMask (i : Instr) : opcodeField (rowMask i) = BitVec.allOnes 3 := by
  unfold rowMask
  split <;> rfl

theorem opcodeField_encode {i : Instr} {m : Word} (hrow : rowMatch i = m) : opcodeField (encode i) = opcodeField m := by
  have hmask : (rowMask i).extractLsb' 9 3 = BitVec.allOnes 3 := opcodeField_rowMask i
  rw [← hrow, ← encode_and_rowMask i, opcodeField, opcodeField, BitVec.extractLsb'_and, hmask, BitVec.and_allOnes]

theorem decode_of_iot {w : Word} (h : opcodeField w = 6) : decode w = orExact exactIot w (decodeIotGeneric w) := by
  rw [decode, h]; rfl

theorem decode_of_opr {w : Word} (h : opcodeField w = 7) : decode w = decodeOpr w := by
  rw [decode, h]; rfl

theorem decode_of_group1 {w : Word} (hop : opcodeField w = 7) (h8 : w.getLsbD 8 = false) :
    decode w = orExact exactGroup1 w (decodeGroup1Generic w) := by
  rw [decode_of_opr hop, decodeOpr, if_pos h8]

theorem decode_of_group2 {w : Word} (hop : opcodeField w = 7) (h8 : w.getLsbD 8 = true) (h0 : w.getLsbD 0 = false) :
    decode w = orExact exactGroup2 w (decodeGroup2Generic w) := by
  rw [decode_of_opr hop, decodeOpr, if_neg (ne_false_of_eq_true h8), if_pos h0]

theorem decode_of_group3 {w : Word} (hop : opcodeField w = 7) (h8 : w.getLsbD 8 = true) (h0 : w.getLsbD 0 = true) :
    decode w = orExact exactGroup3 w (decodeGroup3Generic w) := by
  rw [decode_of_opr hop, decodeOpr, if_neg (ne_false_of_eq_true h8), if_neg (ne_false_of_eq_true h0)]

/-! ## The free bits of a row are the operands (R102 to R106) -/

theorem offset_encodeMri {base : Word} (hbase : base.extractLsb' 0 7 = 0) (ind page : Bool) (offset : BitVec 7) :
    (encodeMri base ind page offset).extractLsb' 0 7 = offset := by
  have hoffset : (offset.zeroExtend 12).extractLsb' 0 7 = offset := extractLsb'_zeroExtend offset (by decide)
  simp [encodeMri, BitVec.extractLsb'_or, extractLsb'_bit, hbase, hoffset]

theorem selectorField_encodeIot (sel : Selector) (fn : BitVec 3) : selectorField (encodeIot sel fn) = sel := by
  have hsel : (sel.zeroExtend 12 <<< 3).extractLsb' 3 6 = sel := extractLsb'_zeroExtend_shiftLeft sel (by decide)
  have hfn : (fn.zeroExtend 12).extractLsb' 3 6 = 0 := extractLsb'_zeroExtend_of_le 6 fn (by decide)
  rw [selectorField, encodeIot, BitVec.extractLsb'_or, BitVec.extractLsb'_or, hsel, hfn]
  simp

theorem fnField_encodeIot (sel : Selector) (fn : BitVec 3) : fnField (encodeIot sel fn) = fn := by
  have hsel : (sel.zeroExtend 12 <<< 3).extractLsb' 0 3 = 0 := extractLsb'_shiftLeft_of_le _ (by decide)
  have hfn : (fn.zeroExtend 12).extractLsb' 0 3 = fn := extractLsb'_zeroExtend fn (by decide)
  rw [fnField, encodeIot, BitVec.extractLsb'_or, BitVec.extractLsb'_or, hsel, hfn]
  simp

theorem rotateField_encodeGroup1 (cla cll cma cml iac : Bool) (rot : Word) :
    (encodeGroup1 cla cll cma cml iac rot).extractLsb' 1 3 = rot.extractLsb' 1 3 := by
  simp [encodeGroup1, BitVec.extractLsb'_or, extractLsb'_bit]

theorem rotateBits_and_mask (rot : Rotate) : rotateBits rot &&& 0o016 = rotateBits rot := by
  cases rot <;> rfl

theorem decodeIotGeneric_encodeIot {sel : Selector} (fn : BitVec 3) (h3 : sel ≠ 3) (h4 : sel ≠ 4) :
    decodeIotGeneric (encodeIot sel fn) = .iotUnclaimed sel fn := by
  rw [decodeIotGeneric, selectorField_encodeIot, fnField_encodeIot, if_neg h3, if_neg h4]

theorem decodeGroup1Generic_opr1 (cla cll cma cml iac : Bool) (rot : Rotate) :
    decodeGroup1Generic (encodeGroup1 cla cll cma cml iac (rotateBits rot)) = .opr1 cla cll cma cml iac rot := by
  rw [decodeGroup1Generic, rotateField_encodeGroup1]
  cases rot <;> simp [encodeGroup1, rotateBits]

theorem decodeGroup1Generic_rot014 (cla cll cma cml iac : Bool) :
    decodeGroup1Generic (encodeGroup1 cla cll cma cml iac 0o014) = .opr1Rot014 cla cll cma cml iac := by
  rw [decodeGroup1Generic, rotateField_encodeGroup1]
  simp [encodeGroup1]

theorem decodeGroup1Generic_rot016 (cla cll cma cml iac : Bool) :
    decodeGroup1Generic (encodeGroup1 cla cll cma cml iac 0o016) = .opr1Rot016 cla cll cma cml iac := by
  rw [decodeGroup1Generic, rotateField_encodeGroup1]
  simp [encodeGroup1]

theorem decodeGroup2Generic_encodeGroup2 (cla sma sza snl rev osr hlt : Bool) :
    decodeGroup2Generic (encodeGroup2 cla sma sza snl rev osr hlt) = .opr2 cla sma sza snl rev osr hlt := by
  simp [decodeGroup2Generic, encodeGroup2]

theorem decodeGroup3Generic_encodeGroup3 (cla mqa x040 mql : Bool) (x016 : BitVec 3) :
    decodeGroup3Generic (encodeGroup3 cla mqa x040 mql x016) = .opr3 cla mqa x040 mql x016 := by
  have hx : (encodeGroup3 cla mqa x040 mql x016).extractLsb' 1 3 = x016 := by
    simp [encodeGroup3, BitVec.extractLsb'_or, extractLsb'_bit, extractLsb'_zeroExtend_shiftLeft]
  rw [decodeGroup3Generic, hx]
  simp [encodeGroup3]

/-! ## A well-formed generic term has no exact row (R117) -/

/-- Where the word of every exact row reads as an ill-formed generic term, a well-formed generic reading stands. -/
theorem orExact_of_wellFormed {rows : List (Word × Instr)} {generic : Word → Instr} {w : Word} {i : Instr}
    (hrows : ∀ r ∈ rows, wellFormed (generic r.1) = false) (hw : generic w = i) (hi : wellFormed i = true) :
    orExact rows w (generic w) = i := by
  obtain hmem | ⟨-, heq⟩ := orExact_cases rows w (generic w)
  · have hill : wellFormed (generic w) = false := hrows _ hmem
    rw [hw, hi] at hill
    contradiction
  · rw [heq, hw]

theorem decodeIotGeneric_illFormed : ∀ r ∈ exactIot, wellFormed (decodeIotGeneric r.1) = false := by decide
theorem decodeGroup1Generic_illFormed : ∀ r ∈ exactGroup1, wellFormed (decodeGroup1Generic r.1) = false := by decide
theorem decodeGroup2Generic_illFormed : ∀ r ∈ exactGroup2, wellFormed (decodeGroup2Generic r.1) = false := by decide
theorem decodeGroup3Generic_illFormed : ∀ r ∈ exactGroup3, wellFormed (decodeGroup3Generic r.1) = false := by decide

/-! ## Each family decodes its own words -/

theorem decode_encode_of_isMri {i : Instr} (h : isMri i = true) : decode (encode i) = i := by
  have hop := opcodeField_encode (i := i) rfl
  cases i
  case and ind page offset | tad ind page offset | isz ind page offset | dca ind page offset | jms ind page offset
      | jmp ind page offset =>
    rw [decode, hop, encode, offset_encodeMri rfl]
    simp [encodeMri, rowMatch, opcodeField]
  all_goals exact nomatch h

theorem decode_encode_iotUnclaimed {sel : Selector} {fn : BitVec 3} (h : wellFormed (.iotUnclaimed sel fn) = true) :
    decode (encode (.iotUnclaimed sel fn)) = .iotUnclaimed sel fn := by
  have hsel : (sel ≠ 0 ∧ sel ≠ 3) ∧ sel ≠ 4 := by simpa [wellFormed_iotUnclaimed] using h
  obtain ⟨⟨-, h3⟩, h4⟩ := hsel
  rw [decode_of_iot (opcodeField_encode (m := 0o6000) rfl)]
  exact orExact_of_wellFormed decodeIotGeneric_illFormed (decodeIotGeneric_encodeIot fn h3 h4) h

/-- A group-1 word with any rotate field, defined or not (R104). -/
theorem decode_encodeGroup1 {cla cll cma cml iac : Bool} {rot : Word} {i : Instr} (hrot : rot &&& 0o016 = rot)
    (hgeneric : decodeGroup1Generic (encodeGroup1 cla cll cma cml iac rot) = i) (hi : wellFormed i = true) :
    decode (encodeGroup1 cla cll cma cml iac rot) = i := by
  have hop : opcodeField (encodeGroup1 cla cll cma cml iac rot) = 7 := by
    rw [← hrot]
    simp [opcodeField, encodeGroup1, BitVec.extractLsb'_or, BitVec.extractLsb'_and, extractLsb'_bit]
  have h8 : (encodeGroup1 cla cll cma cml iac rot).getLsbD 8 = false := by
    rw [← hrot]
    simp [encodeGroup1]
  rw [decode_of_group1 hop h8]
  exact orExact_of_wellFormed decodeGroup1Generic_illFormed hgeneric hi

theorem decode_encode_opr2 {cla sma sza snl rev osr hlt : Bool} (h : wellFormed (.opr2 cla sma sza snl rev osr hlt) = true) :
    decode (encode (.opr2 cla sma sza snl rev osr hlt)) = .opr2 cla sma sza snl rev osr hlt := by
  have hop : opcodeField (encodeGroup2 cla sma sza snl rev osr hlt) = 7 :=
    opcodeField_encode (i := .opr2 cla sma sza snl rev osr hlt) (m := 0o7400) rfl
  have h8 : (encodeGroup2 cla sma sza snl rev osr hlt).getLsbD 8 = true := by simp [encodeGroup2]
  have h0 : (encodeGroup2 cla sma sza snl rev osr hlt).getLsbD 0 = false := by simp [encodeGroup2]
  rw [encode, decode_of_group2 hop h8 h0]
  exact orExact_of_wellFormed decodeGroup2Generic_illFormed (decodeGroup2Generic_encodeGroup2 ..) h

theorem decode_encode_opr3 {cla mqa x040 mql : Bool} {x016 : BitVec 3} (h : wellFormed (.opr3 cla mqa x040 mql x016) = true) :
    decode (encode (.opr3 cla mqa x040 mql x016)) = .opr3 cla mqa x040 mql x016 := by
  have hop : opcodeField (encodeGroup3 cla mqa x040 mql x016) = 7 :=
    opcodeField_encode (i := .opr3 cla mqa x040 mql x016) (m := 0o7401) rfl
  have h8 : (encodeGroup3 cla mqa x040 mql x016).getLsbD 8 = true := by simp [encodeGroup3]
  have h0 : (encodeGroup3 cla mqa x040 mql x016).getLsbD 0 = true := by simp [encodeGroup3]
  rw [encode, decode_of_group3 hop h8 h0]
  exact orExact_of_wellFormed decodeGroup3Generic_illFormed (decodeGroup3Generic_encodeGroup3 ..) h

/-- Settles O1: each family's generic reading of a word gives the operands back, and no exact row has the word of a well-formed
generic term. The exact rows have no operands. -/
theorem decodeOfEncodeIsIdentity : Obligations.DecodeOfEncodeIsIdentity := by
  unfold Obligations.DecodeOfEncodeIsIdentity
  intro i h
  cases i with
  | and | tad | isz | dca | jms | jmp => exact decode_encode_of_isMri rfl
  | tti | tto => exact nomatch h
  | iotUnclaimed => exact decode_encode_iotUnclaimed h
  | opr1 cla cll cma cml iac rot =>
    exact decode_encodeGroup1 (rotateBits_and_mask rot) (decodeGroup1Generic_opr1 cla cll cma cml iac rot) h
  | opr1Rot014 => exact decode_encodeGroup1 rfl (decodeGroup1Generic_rot014 ..) h
  | opr1Rot016 => exact decode_encodeGroup1 rfl (decodeGroup1Generic_rot016 ..) h
  | opr2 => exact decode_encode_opr2 h
  | opr3 => exact decode_encode_opr3 h
  | _ => rfl

theorem decode_of_encode_eq {w : Word} {i : Instr} (hi : wellFormed i = true) (hw : encode i = w) : decode w = i :=
  hw ▸ decodeOfEncodeIsIdentity i hi

/-- Settles O4: each word is the encoding of its instruction, which is well-formed. -/
theorem writtenOutWordsDecode : Obligations.WrittenOutWordsDecode := by
  unfold Obligations.WrittenOutWordsDecode
  refine ⟨?_, ?_, ?_, ?_, ?_, ?_, ?_, ?_, ?_, ?_⟩ <;> exact decode_of_encode_eq rfl rfl

end Sys2Proof.Machine
end
